-- ==== Sys2Proof/Word.lean ====
section
/-! DEFINITION. The plain values of the MSP frame parser: bytes, 16-bit accumulators, times and the
input transaction (spec rules R13, R14, R70). -/

namespace Sys2Proof

/-- A byte, 0..255 (R14). -/
abbrev Byte := BitVec 8

/-- A 16-bit register of the v2 variant (R31, R32). -/
abbrev Half := BitVec 16

/-- The input transaction, one transport byte with its time span (R14, R70); also one entry of the
payload buffer (R50). A time, here and everywhere, is a natural number of ticks of an unspecified
unit; no rule bounds it (R14, decision D1). -/
structure TimestampedByte where
  value : Byte
  startTime : Nat
  endTime : Nat
  deriving DecidableEq, Repr

/-- The kind of a label: the constant `info` in every record (R71). -/
inductive LabelKind where
  | info
  deriving DecidableEq, Repr

/-- The output record, one label with its time span (R14, R71). -/
structure LabeledField where
  startTime : Nat
  endTime : Nat
  kind : LabelKind
  text : String
  deriving DecidableEq, Repr

end Sys2Proof
end

