-- ==== Sys2Proof/Machine/Checksum.lean ====
section
/-! DEFINITION. The checksum engines, combinational functions of an accumulator and a data byte
(R100, R101). -/

namespace Sys2Proof.Machine

/-- `Xor8(c, v)`, the v1 checksum engine (R100). -/
def xor8 (c v : Byte) : Byte := c ^^^ v

/-- One iteration of the CRC-8 loop: a shift in 9 bits, the polynomial added where the top bit was
set, masked to 8 bits (R101). -/
def crc8Iteration (poly t : Byte) : Byte :=
  if t.getLsbD 7 then
    ((t.setWidth 9 <<< 1) ^^^ poly.setWidth 9).setWidth 8
  else
    (t.setWidth 9 <<< 1).setWidth 8

/-- `n` iterations of the CRC-8 loop. -/
def crc8Loop (poly : Byte) : Nat → Byte → Byte
  | 0, t => t
  | n + 1, t => crc8Loop poly n (crc8Iteration poly t)

/-- `Crc8(c, v)`, the v2 checksum engine, for the polynomial `poly` (R101). -/
def crc8 (poly c v : Byte) : Byte := crc8Loop poly 8 (c ^^^ v)

end Sys2Proof.Machine
end

