-- ==== Sys2Proof/Config.lean ====
section
/-! DEFINITION. The configuration `Cfg` of rules R9 and R110 to R115, as plain data, and the free
values: the values the spec states for no operand, each an opaque constant nothing can evaluate. -/

namespace Sys2Proof

/-- The two protocol versions a tag byte or a function table is for (R110, R112). -/
inductive ProtoVersion where
  | v1
  | v2
  deriving DecidableEq, Repr

/-- How a consumed field is turned into text (R114). A value lookup is a finite partial map, held as
its list of pairs (the first pair with a key counts). -/
inductive Interpretation where
  | rawInteger
  | fixedLabel (s : String)
  | indexLookup (l : List String)
  | valueLookup (m : List (Nat × String))
  | text
  deriving DecidableEq, Repr

/-- One descriptor of a field layout: a width (positive: bytes; 0: skip; negative: rest of payload)
and an interpretation (R113). -/
structure FieldDesc where
  width : Int
  interp : Interpretation
  deriving DecidableEq, Repr

/-- An ordered list of field descriptors, possibly empty (R113). -/
abbrev Layout := List FieldDesc

/-- The configuration: the constants and the registry tables (R9, R115). Each registry function is the
list of its pairs; a key that no pair has gets the query's "not found" answer (R116), and of two pairs
with one key the first counts. Every function of R9 is such a list on the keys the hardware asks for
(R55). -/
structure Cfg where
  /-- `START_MARKER` -/
  startMarker : Byte
  /-- `lookupVersionTag` -/
  versionTags : List (Byte × ProtoVersion)
  /-- `lookupTransportType` -/
  transportTypes : List (Byte × String)
  /-- `TT_FLAGS_VARIANT` -/
  ttFlagsVariant : Option Byte
  /-- `nameForFunction` -/
  functionNames : List ((ProtoVersion × Nat) × String)
  /-- `fieldLayout` -/
  fieldLayouts : List (Nat × Layout)
  /-- `FUNC_V2_FRAME` -/
  funcV2Frame : Byte
  /-- `POLY` -/
  poly : Byte
  deriving DecidableEq, Repr

/-- The configuration of `State.reset`: every constant 0, every table empty. DESIGN CHOICE (log entry
2): the spec has no default for any field (R244), and the host replaces all of it before the first
byte. -/
def Cfg.blank : Cfg where
  startMarker := 0#8
  versionTags := []
  transportTypes := []
  ttFlagsVariant := none
  functionNames := []
  fieldLayouts := []
  funcV2Frame := 0#8
  poly := 0#8

/-- FREE VALUE (log entry 8): the text that `HM.FLAGSVAR`, `HM.KNOWN` or `HX.KNOWN` emits for a byte
that `lookupTransportType` does not know. R9 rules the case out, so no rule states the text. -/
opaque Config.unstatedTypeName : Byte → String

/-- FREE VALUE (log entry 9): the text `FD.I.FIXED`, `FD.I.INDEX` or `FD.I.MAP` returns for a
descriptor whose interpretation is of another kind. No rule states it. -/
opaque Config.unstatedFieldText : Interpretation → String

/-- FREE VALUE (log entry 10): how many bytes `FD.FIXEDW` asks for on a descriptor whose width is not
positive. No rule states it. -/
opaque Config.unstatedCount : Int → Nat

end Sys2Proof
end

