-- ==== Sys2Proof/Syntax.lean ====
section
/-! DEFINITION. The cursor's enumerations and the operations of the hardware: one constructor for each
mnemonic of `spec/opcode_table.json` (R22 to R24, R81). -/

namespace Sys2Proof

/-- `S.state`, the position within the frame grammar: 16 variants (R22). -/
inductive ParserState where
  | idle
  | start
  | headerM
  | headerX
  | v1Flags
  | v1PayloadSize
  | v1PayloadFunc
  | v1Payload
  | v1Checksum
  | v2Flags
  | v2Func1
  | v2Func2
  | v2Size1
  | v2Size2
  | v2Payload
  | v2Checksum
  deriving DecidableEq, Repr

/-- `S.decoder`, the selected protocol variant; the fourth code of the 2-bit register is reserved
(R23, R78). -/
inductive DecoderTag where
  | none
  | v1
  | v2
  | reserved
  deriving DecidableEq, Repr

/-- The seven v2 sub-states (R24, R25). -/
def isV2SubState : ParserState → Bool
  | .v2Flags | .v2Func1 | .v2Func2 | .v2Size1 | .v2Size2 | .v2Payload | .v2Checksum => true
  | .idle | .start | .headerM | .headerX | .v1Flags | .v1PayloadSize | .v1PayloadFunc
  | .v1Payload | .v1Checksum => false

/-- The six states of the v1 path (R24). -/
def isV1State : ParserState → Bool
  | .headerM | .v1Flags | .v1PayloadSize | .v1PayloadFunc | .v1Payload | .v1Checksum => true
  | .idle | .start | .headerX | .v2Flags | .v2Func1 | .v2Func2 | .v2Size1 | .v2Size2
  | .v2Payload | .v2Checksum => false

/-- The 23 legal pairs (`S.decoder`, `S.state`) (R24). -/
def legalPair : DecoderTag → ParserState → Bool
  | .none, p => p == .idle || p == .start
  | .v1, p => isV1State p || isV2SubState p
  | .v2, p => p == .headerX || isV2SubState p
  | .reserved, _ => false

/-- The operations (R81), in the order of `spec/opcode_table.json`. An operation of the state machine
reads the current input transaction `b` from the state; `ILLEGAL` carries the selector it stands for
(its 41 rows differ in nothing else), and the checksum engines carry their operand bytes. -/
inductive Instr where
  -- the pre-step
  | calibrate
  | timeout
  -- states IDLE and START
  | idleStart
  | idleSkip
  | startV1
  | startV2
  | startOther
  -- MSP v1
  | hmFlagsvar
  | hmKnown
  | hmInvalid
  | v1Flags
  | v1Size
  | v1FuncPayload
  | v1FuncEmpty
  | v1FuncEncap
  | v1PayloadMore
  | v1PayloadLast
  | v1ChecksumOk
  | v1ChecksumErr
  -- MSP v2
  | hxKnown
  | hxInvalid
  | v2Flags
  | v2Func1
  | v2Func2
  | v2Size1
  | v2Size2Payload
  | v2Size2Empty
  | v2PayloadMore
  | v2PayloadLast
  | v2ChecksumOk
  | v2ChecksumErr
  -- MSP v2 inside MSP v1
  | eFlags
  | eFunc1
  | eFunc2
  | eSize1
  | eSize2
  | ePayload
  | eChecksum
  -- the illegal selectors
  | illegal (d : DecoderTag) (p : ParserState)
  -- the checksum engines
  | xor8 (c v : Byte)
  | crc8 (c v : Byte)
  -- the Payload Field Decoder
  | fdRun
  | fdOpaque
  | fdSkip
  | fdFixedw
  | fdRest
  | fdIText
  | fdIFixed
  | fdIIndex
  | fdIMap
  | fdIRaw
  deriving DecidableEq, Repr

end Sys2Proof
end

