-- ==== Sys2Proof/Machine/State.lean ====
section
/-! DEFINITION. The state of the machine: the Session of R20 to R48, the configuration, the
transaction ports and the result ports of the sub-functions; its reset; its reasons to stop. -/

namespace Sys2Proof.Machine

/-! ## The payload buffer (R50) -/

/-- The payload buffer: its entries in order of arrival, the oldest first. An entry's position is its
index (R50), so equal memories are equal lists and there is no unlisted address. -/
abbrev Memory := List TimestampedByte

/-- `BUF_DEPTH`, the most entries the buffer ever holds (R11, R52). -/
def bufDepth : Nat := 65535

/-- The buffer is within its capacity (R52). -/
def Memory.wf (m : Memory) : Bool := decide (m.length ≤ bufDepth)

/-! ## The Session (R20, R21) -/

/-- The registers of the v1 variant (R26 to R28). The counters are naturals, as R20 allows (log entry
3). -/
structure V1Regs where
  expectedLen : Nat
  receivedCount : Nat
  funcId : Byte
  deriving DecidableEq, Repr

/-- The registers of the v2 variant, standalone or inner (R29 to R32). -/
structure V2Regs where
  expectedLen : Nat
  receivedCount : Nat
  funcAcc : Half
  funcStart : Nat
  lenAcc : Half
  lenStart : Nat
  deriving DecidableEq, Repr

/-- The frame state: every Session register but the timing registers (R18, R20). -/
structure Frame where
  state : ParserState
  decoder : DecoderTag
  payloadBuffer : Memory
  v1 : V1Regs
  v2 : V2Regs
  crc1 : Byte
  crc2 : Byte
  deriving DecidableEq, Repr

/-- The timing state, which only hardware reset clears (R20, R36 to R38, R241). -/
structure Timing where
  lastByteTime : Nat
  calDuration : Nat
  calibrated : Bool
  deriving DecidableEq, Repr

/-- The frame state's reset values (R46). -/
def Frame.reset : Frame where
  state := .idle
  decoder := .none
  payloadBuffer := []
  v1 := { expectedLen := 0, receivedCount := 0, funcId := 0#8 }
  v2 :=
    { expectedLen := 0, receivedCount := 0, funcAcc := 0#16, funcStart := 0, lenAcc := 0#16
      lenStart := 0 }
  crc1 := 0#8
  crc2 := 0#8

/-- The timing state's reset values (R46). -/
def Timing.reset : Timing where
  lastByteTime := 0
  calDuration := 0
  calibrated := false

/-! ## The ports -/

/-- What the host can do to the machine between steps: deliver one byte (R70) or assert the reset
input (R240). -/
inductive HostInput where
  | byte (b : TimestampedByte)
  | reset
  deriving DecidableEq, Repr

/-- The ports of a field-decoder row that is executed by itself (log entry 6): the variables of the
walk of R200. No step reads or writes them. -/
structure FieldPorts where
  /-- the descriptor `(w, interp)` -/
  desc : FieldDesc
  /-- the private cursor `pos` (R201) -/
  pos : Nat
  /-- the entries consumed -/
  chunk : List TimestampedByte
  /-- their big-endian value -/
  value : Nat
  /-- the text an interpretation returned -/
  text : String
  /-- the labels `FD.RUN` or `FD.OPAQUE` returned -/
  labels : List LabeledField
  deriving DecidableEq, Repr

/-- The reset values of the ports: the model's own (log entry 6). -/
def FieldPorts.reset : FieldPorts where
  desc := { width := 0, interp := .rawInteger }
  pos := 0
  chunk := []
  value := 0
  text := ""
  labels := []

/-! ## The state -/

/-- The whole state: the Session (`frame`, `timing`), the configuration, and the model's own ports
(log entries 1, 2 and 6). -/
structure State where
  /-- the frame state of the Session -/
  frame : Frame
  /-- the timing state of the Session -/
  timing : Timing
  /-- the configuration, constant (R39) -/
  cfg : Cfg
  /-- the current input transaction, `b` (R15) -/
  cur : TimestampedByte
  /-- what the host has yet to deliver, the next first -/
  input : List HostInput
  /-- the output list of the current step (R15, R120) -/
  out : List LabeledField
  /-- the output stream so far (R71) -/
  stream : List LabeledField
  /-- the result of a checksum engine executed by itself -/
  fnResult : Byte
  /-- the ports of a field-decoder row executed by itself -/
  field : FieldPorts
  deriving DecidableEq, Repr

/-- Hardware reset: the whole Session goes into the reset state and nothing is emitted; the
configuration is supplied before it and stays (R240, R244). -/
def hardwareReset (s : State) : State :=
  { s with frame := Frame.reset, timing := Timing.reset, out := [] }

/-- The machine right after hardware reset, under a configuration, with nothing delivered yet
(R46, R240). -/
def State.ofCfg (c : Cfg) : State where
  frame := Frame.reset
  timing := Timing.reset
  cfg := c
  cur := { value := 0#8, startTime := 0, endTime := 0 }
  input := []
  out := []
  stream := []
  fnResult := 0#8
  field := FieldPorts.reset

/-- The machine right after hardware reset (R46), with the blank configuration (log entry 2). -/
def State.reset : State := State.ofCfg Cfg.blank

/-! ## Reasons to stop -/

/-- Why a step faults. The hardware has no fault (R220). -/
inductive Fault where
  /-- Raised by the step where the decoder rejects the operation word that the selector and the
  condition logic make. Safe, and never raised: every such word is a row of the table. -/
  | badOperationWord
  deriving DecidableEq, Repr

/-- Why an operation is refused. -/
inductive Refusal where
  /-- Raised by an arm of `exec` for an operation without a meaning. Safe; no arm is left. -/
  | notModelled (mnemonic : String)
  deriving DecidableEq, Repr

/-- What an operation or a step answers. -/
abbrev Result := Host.Outcome State Fault Refusal

end Sys2Proof.Machine
end

