-- ==== Sys2Proof/Machine/Operands.lean ====
section
/-! DEFINITION. The operand forms: the two-byte fields, the big-endian field value, and the spelling of
numbers and characters (R13, R77, R204). -/

namespace Sys2Proof.Machine

/-- The first byte of a two-byte field, `zext_16(v) << 8` (R77). -/
def highByte (v : Byte) : Half := v.setWidth 16 <<< 8

/-- A two-byte field completed by its second byte, `acc or zext_16(v)` (R77). -/
def withLowByte (acc : Half) (v : Byte) : Half := acc ||| v.setWidth 16

/-- `len16`, the v2 length as the current byte completes it (R80). -/
def len16 (s : State) : Half := withLowByte s.frame.v2.lenAcc s.cur.value

/-- The big-endian value of the entries of a chunk, never truncated (R77, R204). -/
def bigEndian (chunk : List TimestampedByte) : Nat :=
  chunk.foldl (fun acc e => 256 * acc + e.value.toNat) 0

/-- `dec(n)`, the decimal spelling (R13). -/
def dec (n : Nat) : String := Nat.repr n

/-- `chr(v)`, the character whose code is the byte value (R13). -/
def chr (v : Byte) : Char := Char.ofNat v.toNat

/-- The characters of a chunk's bytes, in order (R208). -/
def chunkText (chunk : List TimestampedByte) : String :=
  String.ofList (chunk.map fun e => chr e.value)

end Sys2Proof.Machine
end

