-- ==== Sys2Proof/Machine/Registry.lean ====
section
/-! DEFINITION. The queries of the Function Registry (R110 to R113, R116). -/

namespace Sys2Proof.Machine

/-- `lookupVersionTag` (R110). -/
def lookupVersionTag (c : Cfg) (v : Byte) : Option ProtoVersion := c.versionTags.lookup v

/-- `lookupTransportType`, one table for v1 and v2 (R111). -/
def lookupTransportType (c : Cfg) (v : Byte) : Option String := c.transportTypes.lookup v

/-- `nameForFunction`: never fails; the sentinel for an unmapped id is `UNKNOWN` (R112). -/
def nameForFunction (c : Cfg) (ver : ProtoVersion) (id : Nat) : String :=
  (c.functionNames.lookup (ver, id)).getD "UNKNOWN"

/-- `fieldLayout`: `none` means no known structure (R113). -/
def fieldLayout (c : Cfg) (id : Nat) : Option Layout := c.fieldLayouts.lookup id

end Sys2Proof.Machine
end

