-- ==== Sys2Proof/Machine/Flags.lean ====
section
/-! DEFINITION. The flag-like predicates, none of them stored but `calibrated` (R25, R40, R80), and the
idle comparison (R123). -/

namespace Sys2Proof.Machine

/-- `encap(S)`: an inner v2 frame is being parsed inside a v1 frame (R25). -/
def encap (f : Frame) : Bool := f.decoder == .v1 && isV2SubState f.state

/-- `isStart(v)` (R80). -/
def isStart (c : Cfg) (v : Byte) : Bool := v == c.startMarker

/-- `isFlagsVar(v)` (R80). -/
def isFlagsVar (c : Cfg) (v : Byte) : Bool := c.ttFlagsVariant == some v

/-- `isEncapFunc(v)` (R80). -/
def isEncapFunc (c : Cfg) (v : Byte) : Bool := v == c.funcV2Frame

/-- `v1Last` (R80). -/
def v1Last (f : Frame) : Bool := f.v1.receivedCount + 1 == f.v1.expectedLen

/-- `v2Last` (R80). -/
def v2Last (f : Frame) : Bool := f.v2.receivedCount + 1 == f.v2.expectedLen

/-- The v1 completion test, computed and not stored (R40). -/
def v1Complete (f : Frame) : Bool := f.v1.receivedCount == f.v1.expectedLen

/-- The v2 completion test, computed and not stored (R40). -/
def v2Complete (f : Frame) : Bool := f.v2.receivedCount == f.v2.expectedLen

/-- `IdleExceeded(S, b)`: the gap is strictly greater than 30 bit periods, compared exactly by
cross-multiplication (R123); subtraction of naturals is `monus`. -/
def idleExceeded (s : State) : Bool :=
  decide (60 * s.timing.calDuration < 19 * (s.cur.startTime - s.timing.lastByteTime))

end Sys2Proof.Machine
end

