-- ==== Sys2Proof/Machine/Ops.lean ====
section
/-! DEFINITION. The named operations over the Session: register writes, the payload buffer, the
checksum folds, emitting a label, the two resets, the response to an error condition, and the
encapsulated wrapper (R15, R51 to R54, R124, R180, R220 to R228). -/

namespace Sys2Proof.Machine

/-! ## The cursor -/

/-- `S.state <- p`. -/
def setState (p : ParserState) (s : State) : State := { s with frame := { s.frame with state := p } }

/-- `S.decoder <- d`. -/
def setDecoder (d : DecoderTag) (s : State) : State := { s with frame := { s.frame with decoder := d } }

/-! ## The payload buffer (R51 to R54) -/

/-- `BufAppend(e)`: writes the entry at index `len` (R51). -/
def bufAppend (e : TimestampedByte) (s : State) : State :=
  { s with frame := { s.frame with payloadBuffer := s.frame.payloadBuffer ++ [e] } }

/-- `BufClear()` (R53). -/
def bufClear (s : State) : State := { s with frame := { s.frame with payloadBuffer := [] } }

/-- `MemRead(addr, n)`: the entries at indices `addr .. addr+n-1` (R54). Every read a step makes has
`addr + n <= len`; for a cursor past the end see log entry 21. -/
def memRead (m : Memory) (addr n : Nat) : List TimestampedByte := (m.drop addr).take n

/-- The entry at an index, if the buffer holds one. -/
def entryAt (m : Memory) (i : Nat) : Option TimestampedByte := m[i]?

/-! ## Registers of the variants -/

/-- Writes the v1 counters. -/
def setV1Count (expected received : Nat) (s : State) : State :=
  { s with
    frame :=
      { s.frame with
        v1 := { s.frame.v1 with expectedLen := expected, receivedCount := received } } }

/-- `S.v1.receivedCount <- S.v1.receivedCount + 1`. -/
def bumpV1 (s : State) : State :=
  { s with
    frame :=
      { s.frame with
        v1 := { s.frame.v1 with receivedCount := s.frame.v1.receivedCount + 1 } } }

/-- `S.v1.funcId <- v`. -/
def setV1FuncId (v : Byte) (s : State) : State :=
  { s with frame := { s.frame with v1 := { s.frame.v1 with funcId := v } } }

/-- Writes the v2 counters. -/
def setV2Count (expected received : Nat) (s : State) : State :=
  { s with
    frame :=
      { s.frame with
        v2 := { s.frame.v2 with expectedLen := expected, receivedCount := received } } }

/-- `S.v2.receivedCount <- S.v2.receivedCount + 1`. -/
def bumpV2 (s : State) : State :=
  { s with
    frame :=
      { s.frame with
        v2 := { s.frame.v2 with receivedCount := s.frame.v2.receivedCount + 1 } } }

/-- `S.v2.funcAcc <- a`. -/
def setFuncAcc (a : Half) (s : State) : State :=
  { s with frame := { s.frame with v2 := { s.frame.v2 with funcAcc := a } } }

/-- `S.v2.funcStart <- t`. -/
def setFuncStart (t : Nat) (s : State) : State :=
  { s with frame := { s.frame with v2 := { s.frame.v2 with funcStart := t } } }

/-- `S.v2.lenAcc <- a`. -/
def setLenAcc (a : Half) (s : State) : State :=
  { s with frame := { s.frame with v2 := { s.frame.v2 with lenAcc := a } } }

/-- `S.v2.lenStart <- t`. -/
def setLenStart (t : Nat) (s : State) : State :=
  { s with frame := { s.frame with v2 := { s.frame.v2 with lenStart := t } } }

/-! ## The checksum accumulators (R33, R34) -/

/-- `S.crc1 <- c`. -/
def setCrc1 (c : Byte) (s : State) : State := { s with frame := { s.frame with crc1 := c } }

/-- `S.crc2 <- c`. -/
def setCrc2 (c : Byte) (s : State) : State := { s with frame := { s.frame with crc2 := c } }

/-- Folds the current byte into the v1 checksum. -/
def foldCrc1 (s : State) : State := setCrc1 (xor8 s.frame.crc1 s.cur.value) s

/-- Folds the current byte into the v2 checksum. -/
def foldCrc2 (s : State) : State := setCrc2 (crc8 s.cfg.poly s.frame.crc2 s.cur.value) s

/-- Sets the v2 checksum to 0 and folds the current byte into it (R162). -/
def startCrc2 (s : State) : State := setCrc2 (crc8 s.cfg.poly 0#8 s.cur.value) s

/-! ## Labels -/

/-- `emit(a, z, t)`: appends a label to the output list of the current step (R15). -/
def emit (a z : Nat) (t : String) (s : State) : State :=
  { s with out := s.out ++ [{ startTime := a, endTime := z, kind := .info, text := t }] }

/-- A label over the span of the current byte (R83). -/
def emitCur (t : String) (s : State) : State := emit s.cur.startTime s.cur.endTime t s

/-- Emits a list of labels in order. -/
def emitAll (l : List LabeledField) (s : State) : State := { s with out := s.out ++ l }

/-! ## Frame reset (R124) -/

/-- `FrameReset()`: the frame state goes to its reset values, the timing state stays (R47, R124). -/
def frameReset (s : State) : State := { s with frame := Frame.reset }

/-! ## Error conditions (R220 to R228)

The hardware has no trap: it saves nothing, changes no mode and jumps nowhere. The whole response to a
condition is its label, or silence, and the next state, which the operation that signals it names
(R231). No register records that a condition happened (R220). -/

/-- The six error conditions (R221 to R226). -/
inductive ErrorCond where
  | badTransport
  | badVersion
  | crcMismatch
  | unknownFunction
  | enumRange
  | idleTimeout
  deriving DecidableEq, Repr

/-- The reference code of a condition (R228, decision D33). The hardware stores none. -/
def errorCode : ErrorCond → Nat
  | .badTransport => 1
  | .badVersion => 2
  | .crcMismatch => 3
  | .unknownFunction => 4
  | .enumRange => 5
  | .idleTimeout => 6

/-- The label that answers a condition, or `none` for silence (R228). -/
def errorLabel : ErrorCond → Option String
  | .badTransport => some "INVALID"
  | .badVersion => none
  | .crcMismatch => some "CRC ERROR"
  | .unknownFunction => some "Func: UNKNOWN"
  | .enumRange => some "ERROR"
  | .idleTimeout => none

/-- What the hardware does on a condition that an operation finds at the current byte: the label over
the byte's span, or nothing (R228, R231). -/
def signal (e : ErrorCond) (s : State) : State :=
  match errorLabel e with
  | some t => emitCur t s
  | none => s

/-! ## The encapsulated wrapper (R180) -/

/-- What an inner operation leaves for the wrapper in place of its write of `S.state`: the next v2
sub-state, or that the inner frame is over (R180). -/
inductive InnerNext where
  | goto (p : ParserState)
  | done
  deriving DecidableEq, Repr

/-- `Encap(inner)`: the outer checksum and count take the byte, the inner operation is performed
without its state write, and the outer count decides the next state (R180). -/
def encapsulate (inner : State → State) (n : InnerNext) (s : State) : State :=
  let t := inner (bumpV1 (foldCrc1 s))
  if v1Complete t.frame then
    setState .v1Checksum t
  else
    match n with
    | .done => setState .v1Payload t
    | .goto p => setState p t

end Sys2Proof.Machine
end

