-- ==== Sys2Proof/Machine/Common.lean ====
section
/-! DEFINITION. The states `IDLE` and `START`, and the illegal selectors (R125 to R131). -/

namespace Sys2Proof.Machine

/-- `IDLE.START`: a frame starts (R125). -/
def execIdleStart (s : State) : Result :=
  .next (setState .start (emitCur "Start" (setCrc2 0#8 (setCrc1 0#8 (frameReset s)))))

/-- `IDLE.SKIP`: stay in `IDLE`, emit nothing (R126). -/
def execIdleSkip (s : State) : Result := .next s

/-- `START.V1`: select the v1 decoder (R127). -/
def execStartV1 (s : State) : Result :=
  .next (setState .headerM (emitCur "MSPv1" (setDecoder .v1 s)))

/-- `START.V2`: select the v2 decoder (R128). -/
def execStartV2 (s : State) : Result :=
  .next (setState .headerX (emitCur "MSPv2" (setDecoder .v2 s)))

/-- `START.OTHER`: the state stays `START`, no label (R129, R222). -/
def execStartOther (s : State) : Result := .next (signal .badVersion s)

/-- `ILLEGAL`: frame reset; the step then handles the byte in `IDLE` (R131). The selector it stands
for does not matter to it. -/
def execIllegal (_d : DecoderTag) (_p : ParserState) (s : State) : Result := .next (frameReset s)

end Sys2Proof.Machine
end

