-- ==== Sys2Proof/Machine/FieldDecoder.lean ====
section
/-! DEFINITION. The Payload Field Decoder (R200 to R213): a function of a layout and the payload buffer,
and its rows as operations that answer through the model's own ports (log entry 6). -/

namespace Sys2Proof.Machine

/-! ## Consumption by width (R204 to R207) -/

/-- How many bytes `FD.FIXEDW` consumes of `left` bytes left: `min(w, left)` (R204, R205). The width
is positive wherever the row is chosen; on another width the count is a free value (log entry 10). -/
def fixedCount (w : Int) (left : Nat) : Nat :=
  if 0 < w then min w.toNat left else min (Config.unstatedCount w) left

/-- How many bytes a descriptor of a width that is not 0 consumes of `left` bytes left (R200). -/
def fieldCount (w : Int) (left : Nat) : Nat := if w < 0 then left else fixedCount w left

/-- The walk of R200 from the cursor `pos`: each descriptor that consumes bytes, with the entries it
consumes. It stops where the buffer or the layout is exhausted; a width of 0 is skipped. -/
def walk (buf : Memory) : Layout → Nat → List (FieldDesc × List TimestampedByte)
  | [], _ => []
  | d :: ds, pos =>
    if buf.length ≤ pos then []
    else if d.width = 0 then walk buf ds pos
    else
      let n := fieldCount d.width (buf.length - pos)
      (d, memRead buf pos n) :: walk buf ds (pos + n)

/-! ## Interpretation (R208 to R212) -/

/-- `FD.I.TEXT` (R208). -/
def textOf (chunk : List TimestampedByte) : String := "STR: " ++ chunkText chunk

/-- The sentinel `ERROR` that answers a value with no entry (R225). -/
def enumError : String := (errorLabel .enumRange).getD ""

/-- `FD.I.INDEX`: `l[value]`, or `ERROR` past the end (R210). -/
def indexText (l : List String) (value : Nat) : String := l[value]?.getD enumError

/-- `FD.I.MAP`: `m[value]`, or `ERROR` for a value that is no key (R211). -/
def mapText (m : List (Nat × String)) (value : Nat) : String := (m.lookup value).getD enumError

/-- `Interpret(w, interp, chunk, value)` (R208 to R212). DESIGN CHOICE (log entry 22): text on width 0,
for which R208 and R212 say nothing, is the raw integer; the walk skips such a descriptor (R206). -/
def interpret (w : Int) (interp : Interpretation) (chunk : List TimestampedByte) (value : Nat) :
    String :=
  match interp with
  | .text => if w < 0 then textOf chunk else dec value
  | .fixedLabel t => t
  | .indexLookup l => indexText l value
  | .valueLookup m => mapText m value
  | .rawInteger => dec value

/-- An enumerated value with no entry, the condition `E_ENUM_RANGE` (R225). -/
def enumOutOfRange (interp : Interpretation) (value : Nat) : Bool :=
  match interp with
  | .indexLookup l => decide (l.length ≤ value)
  | .valueLookup m => (m.lookup value).isNone
  | .rawInteger | .fixedLabel _ | .text => false

/-! ## Labels (R200, R202, R203) -/

/-- A label over the entries of a chunk, from the first's start to the last's end (R203); no label for
no entries. -/
def spanLabel (t : String) : List TimestampedByte → List LabeledField
  | [] => []
  | e :: es =>
    [{ startTime := e.startTime, endTime := (es.getLastD e).endTime, kind := .info, text := t }]

/-- The label of one descriptor that consumed a chunk (R200). -/
def fieldLabel (f : FieldDesc × List TimestampedByte) : List LabeledField :=
  spanLabel (interpret f.1.width f.1.interp f.2 (bigEndian f.2)) f.2

/-- `Opaque(buf)`: one label `PAYLOAD` over the whole buffer (R202). -/
def opaqueLabels (buf : Memory) : List LabeledField := spanLabel "PAYLOAD" buf

/-- `DecodeFields(lay, buf)` (R200). An empty buffer, which the hardware never passes, gives the empty
list (decision D29). -/
def decodeFields (lay : Option Layout) (buf : Memory) : List LabeledField :=
  match lay with
  | none => opaqueLabels buf
  | some l => (walk buf l 0).flatMap fieldLabel

/-! ## The rows as operations -/

/-- Writes the ports. -/
def setField (f : FieldPorts) (s : State) : State := { s with field := f }

/-- Consumes `n` entries at the cursor into the ports (R204, R207). DESIGN CHOICE (log entry 21): with the
cursor past the end, where R54 allows no read, the entries are none and their value is 0. -/
def consume (n : Nat) (s : State) : State :=
  let chunk := memRead s.frame.payloadBuffer s.field.pos n
  setField
    { s.field with pos := s.field.pos + n, chunk := chunk, value := bigEndian chunk } s

/-- The bytes left at the cursor, `len(buf) - pos`. DESIGN CHOICE (log entry 21): none with the cursor past
the end, where no rule defines the difference. -/
def bytesLeft (s : State) : Nat := s.frame.payloadBuffer.length - s.field.pos

/-- `FD.RUN`: the labels of the pending function's layout over the payload buffer (R200). -/
def execFdRun (s : State) : Result :=
  .next
    (setField
      { s.field with
        labels := decodeFields (fieldLayout s.cfg s.frame.v1.funcId.toNat) s.frame.payloadBuffer } s)

/-- `FD.OPAQUE` (R202). -/
def execFdOpaque (s : State) : Result :=
  .next (setField { s.field with labels := opaqueLabels s.frame.payloadBuffer } s)

/-- `FD.SKIP`: no bytes consumed, no output (R206). -/
def execFdSkip (s : State) : Result := .next s

/-- `FD.FIXEDW` (R204, R205). -/
def execFdFixedw (s : State) : Result :=
  .next (consume (fixedCount s.field.desc.width (bytesLeft s)) s)

/-- `FD.REST`: every byte left (R207). -/
def execFdRest (s : State) : Result := .next (consume (bytesLeft s) s)

/-- `FD.I.TEXT` (R208). -/
def execFdIText (s : State) : Result :=
  .next (setField { s.field with text := textOf s.field.chunk } s)

/-- `FD.I.FIXED` (R209); on another kind of interpretation the text is a free value (log entry 9). -/
def execFdIFixed (s : State) : Result :=
  let t :=
    match s.field.desc.interp with
    | .fixedLabel t => t
    | i => Config.unstatedFieldText i
  .next (setField { s.field with text := t } s)

/-- `FD.I.INDEX` (R210); on another kind of interpretation the text is a free value (log entry 9). -/
def execFdIIndex (s : State) : Result :=
  let t :=
    match s.field.desc.interp with
    | .indexLookup l => indexText l s.field.value
    | i => Config.unstatedFieldText i
  .next (setField { s.field with text := t } s)

/-- `FD.I.MAP` (R211); on another kind of interpretation the text is a free value (log entry 9). -/
def execFdIMap (s : State) : Result :=
  let t :=
    match s.field.desc.interp with
    | .valueLookup m => mapText m s.field.value
    | i => Config.unstatedFieldText i
  .next (setField { s.field with text := t } s)

/-- `FD.I.RAW` (R212). -/
def execFdIRaw (s : State) : Result :=
  .next (setField { s.field with text := dec s.field.value } s)

end Sys2Proof.Machine
end

