-- ==== Sys2Proof/Machine/V1.lean ====
section
/-! DEFINITION. The MSP v1 path, from `HEADER_M` to `V1_CHECKSUM` (R140 to R152). -/

namespace Sys2Proof.Machine

/-- The name of the current byte as a transport sub-type. R9 makes it a string wherever an operation
that emits it is chosen; otherwise it is a free value (log entry 8). -/
def typeName (s : State) : String :=
  (lookupTransportType s.cfg s.cur.value).getD (Config.unstatedTypeName s.cur.value)

/-- `HM.FLAGSVAR` (R140). -/
def execHmFlagsvar (s : State) : Result := .next (setState .v1Flags (emitCur (typeName s) s))

/-- `HM.KNOWN` (R141). -/
def execHmKnown (s : State) : Result := .next (setState .v1PayloadSize (emitCur (typeName s) s))

/-- `HM.INVALID`: best-effort continuation (R142, R221). -/
def execHmInvalid (s : State) : Result := .next (setState .v1PayloadSize (signal .badTransport s))

/-- `V1.FLAGS`: labelled, not checksummed, not stored (R143). -/
def execV1Flags (s : State) : Result := .next (setState .v1PayloadSize (emitCur "Flags" s))

/-- `V1.SIZE` (R144). -/
def execV1Size (s : State) : Result :=
  .next
    (setState .v1PayloadFunc
      (emitCur "Length" (foldCrc1 (setV1Count s.cur.value.toNat 0 (bufClear s)))))

/-- What the three `V1.FUNC.*` operations share: fold, store the id, emit the name (R145 to R147). -/
def takeV1Func (s : State) : State :=
  emitCur ("Func: " ++ nameForFunction s.cfg .v1 s.cur.value.toNat)
    (setV1FuncId s.cur.value (foldCrc1 s))

/-- `V1.FUNC.PAYLOAD` (R145). -/
def execV1FuncPayload (s : State) : Result := .next (setState .v1Payload (takeV1Func s))

/-- `V1.FUNC.EMPTY` (R146). -/
def execV1FuncEmpty (s : State) : Result := .next (setState .v1Checksum (takeV1Func s))

/-- `V1.FUNC.ENCAP`: the decoder stays `V1`, which is encapsulated mode (R147). -/
def execV1FuncEncap (s : State) : Result := .next (setState .v2Flags (takeV1Func s))

/-- What the two `V1.PAYLOAD.*` operations share: append, fold, count (R148, R149). -/
def takeV1Payload (s : State) : State := bumpV1 (foldCrc1 (bufAppend s.cur s))

/-- `V1.PAYLOAD.MORE`: no label, and `S.state` stays (R148). -/
def execV1PayloadMore (s : State) : Result := .next (takeV1Payload s)

/-- `V1.PAYLOAD.LAST`: the field decoder runs over the buffer with the byte just appended (R149). -/
def execV1PayloadLast (s : State) : Result :=
  let t := takeV1Payload s
  .next
    (setState .v1Checksum
      (emitAll
        (decodeFields (fieldLayout t.cfg t.frame.v1.funcId.toNat) t.frame.payloadBuffer) t))

/-- `V1.CHECKSUM.OK` (R150). -/
def execV1ChecksumOk (s : State) : Result := .next (frameReset (emitCur "CRC" s))

/-- `V1.CHECKSUM.ERR` (R151, R223). -/
def execV1ChecksumErr (s : State) : Result := .next (frameReset (signal .crcMismatch s))

end Sys2Proof.Machine
end

