-- ==== Sys2Proof/Machine/V2.lean ====
section
/-! DEFINITION. The MSP v2 path, from `HEADER_X` to `V2_CHECKSUM` (R160 to R173). What an operation does
besides its write of `S.state` (and `FrameReset()`) is a definition of its own, which the encapsulated
path uses too (R180). -/

namespace Sys2Proof.Machine

/-- `HX.KNOWN` (R160). -/
def execHxKnown (s : State) : Result := .next (setState .v2Flags (emitCur (typeName s) s))

/-- `HX.INVALID` (R161, R221). -/
def execHxInvalid (s : State) : Result := .next (setState .v2Flags (signal .badTransport s))

/-- The inner part of `V2.FLAGS` (R162). -/
def takeV2Flags (s : State) : State := emitCur "Flags" (startCrc2 s)

/-- `V2.FLAGS` (R162). -/
def execV2Flags (s : State) : Result := .next (setState .v2Func1 (takeV2Flags s))

/-- The inner part of `V2.FUNC1` (R163). -/
def takeV2Func1 (s : State) : State :=
  setFuncStart s.cur.startTime (setFuncAcc (highByte s.cur.value) (foldCrc2 s))

/-- `V2.FUNC1` (R163). -/
def execV2Func1 (s : State) : Result := .next (setState .v2Func2 (takeV2Func1 s))

/-- The inner part of `V2.FUNC2`: the label spans both bytes (R164). -/
def takeV2Func2 (s : State) : State :=
  let id := withLowByte s.frame.v2.funcAcc s.cur.value
  emit s.frame.v2.funcStart s.cur.endTime ("Func: " ++ nameForFunction s.cfg .v2 id.toNat)
    (setFuncAcc id (foldCrc2 s))

/-- `V2.FUNC2` (R164). -/
def execV2Func2 (s : State) : Result := .next (setState .v2Size1 (takeV2Func2 s))

/-- The inner part of `V2.SIZE1` (R165). -/
def takeV2Size1 (s : State) : State :=
  setLenStart s.cur.startTime (setLenAcc (highByte s.cur.value) (foldCrc2 s))

/-- `V2.SIZE1` (R165). -/
def execV2Size1 (s : State) : Result := .next (setState .v2Size2 (takeV2Size1 s))

/-- The inner part of `V2.SIZE2.PAYLOAD` (R166). -/
def takeV2Size2Payload (s : State) : State :=
  emit s.frame.v2.lenStart s.cur.endTime ("Length " ++ dec (len16 s).toNat)
    (setV2Count (len16 s).toNat 0 (bufClear (setLenAcc (len16 s) (foldCrc2 s))))

/-- `V2.SIZE2.PAYLOAD` (R166). -/
def execV2Size2Payload (s : State) : Result := .next (setState .v2Payload (takeV2Size2Payload s))

/-- The inner part of `V2.SIZE2.EMPTY` (R167). -/
def takeV2Size2Empty (s : State) : State :=
  emit s.frame.v2.lenStart s.cur.endTime "Length 0"
    (setV2Count 0 0 (bufClear (setLenAcc (len16 s) (foldCrc2 s))))

/-- `V2.SIZE2.EMPTY` (R167). -/
def execV2Size2Empty (s : State) : Result := .next (setState .v2Checksum (takeV2Size2Empty s))

/-- The inner part of `V2.PAYLOAD.*`: the label's index is the count before the byte (R168, R169). -/
def takeV2Payload (s : State) : State :=
  bumpV2
    (emitCur ("data[" ++ dec s.frame.v2.receivedCount ++ "]") (foldCrc2 (bufAppend s.cur s)))

/-- `V2.PAYLOAD.MORE`: `S.state` stays (R168). -/
def execV2PayloadMore (s : State) : Result := .next (takeV2Payload s)

/-- `V2.PAYLOAD.LAST` (R169). -/
def execV2PayloadLast (s : State) : Result := .next (setState .v2Checksum (takeV2Payload s))

/-- The inner part of `V2.CHECKSUM.OK` (R170). -/
def takeV2ChecksumOk (s : State) : State := emitCur "CRC" s

/-- `V2.CHECKSUM.OK` (R170). -/
def execV2ChecksumOk (s : State) : Result := .next (frameReset (takeV2ChecksumOk s))

/-- The inner part of `V2.CHECKSUM.ERR` (R171, R223). -/
def takeV2ChecksumErr (s : State) : State := signal .crcMismatch s

/-- `V2.CHECKSUM.ERR` (R171). -/
def execV2ChecksumErr (s : State) : Result := .next (frameReset (takeV2ChecksumErr s))

end Sys2Proof.Machine
end

