-- ==== Sys2Proof/Machine/Encapsulated.lean ====
section
/-! DEFINITION. The encapsulated path: MSP v2 inside MSP v1 (R180 to R191). Each operation is the
wrapper of R180 around the inner v2 operation of the same state. -/

namespace Sys2Proof.Machine

/-- `E.FLAGS` (R181). -/
def execEFlags (s : State) : Result := .next (encapsulate takeV2Flags (.goto .v2Func1) s)

/-- `E.FUNC1` (R182). -/
def execEFunc1 (s : State) : Result := .next (encapsulate takeV2Func1 (.goto .v2Func2) s)

/-- `E.FUNC2` (R183). -/
def execEFunc2 (s : State) : Result := .next (encapsulate takeV2Func2 (.goto .v2Size1) s)

/-- `E.SIZE1` (R184). -/
def execESize1 (s : State) : Result := .next (encapsulate takeV2Size1 (.goto .v2Size2) s)

/-- `E.SIZE2`: the completed inner length chooses the inner operation (R185). -/
def execESize2 (s : State) : Result :=
  if len16 s = 0#16 then
    .next (encapsulate takeV2Size2Empty (.goto .v2Checksum) s)
  else
    .next (encapsulate takeV2Size2Payload (.goto .v2Payload) s)

/-- `E.PAYLOAD`: the inner count chooses the inner operation (R186). -/
def execEPayload (s : State) : Result :=
  if v2Last s.frame then
    .next (encapsulate takeV2Payload (.goto .v2Checksum) s)
  else
    .next (encapsulate takeV2Payload (.goto .v2Payload) s)

/-- `E.CHECKSUM`: the inner frame is over, whether or not its checksum matches; no frame reset
(R187). -/
def execEChecksum (s : State) : Result :=
  if s.cur.value = s.frame.crc2 then
    .next (encapsulate takeV2ChecksumOk .done s)
  else
    .next (encapsulate takeV2ChecksumErr .done s)

end Sys2Proof.Machine
end

