-- ==== Sys2Proof/Machine/Engines.lean ====
section
/-! DEFINITION. The checksum engines as operations: the result goes to the model's own port `fnResult`
and no Session register changes (R100 to R102, log entry 6). -/

namespace Sys2Proof.Machine

/-- `XOR8` (R100). -/
def execXor8 (c v : Byte) (s : State) : Result := .next { s with fnResult := xor8 c v }

/-- `CRC8`, with the configured polynomial (R101). -/
def execCrc8 (c v : Byte) (s : State) : Result := .next { s with fnResult := crc8 s.cfg.poly c v }

end Sys2Proof.Machine
end

