-- ==== Sys2Proof/Machine/Prestep.lean ====
section
/-! DEFINITION. The pre-step operations: calibration and the idle reset (R122, R123). -/

namespace Sys2Proof.Machine

/-- `CALIBRATE`: the first byte's duration is stored, once (R122). -/
def execCalibrate (s : State) : Result :=
  .next
    { s with
      timing :=
        { s.timing with
          calDuration := s.cur.endTime - s.cur.startTime
          calibrated := true } }

/-- `TIMEOUT`: frame reset when the gap exceeds the idle window, silently (R123, R226). -/
def execTimeout (s : State) : Result :=
  if idleExceeded s then .next (signal .idleTimeout (frameReset s)) else .next s

end Sys2Proof.Machine
end

