-- ==== Sys2Proof/Machine/Dispatch.lean ====
section
/-! DEFINITION. The dispatch: one arm for each operation, one meaning for each arm. -/

namespace Sys2Proof.Machine

def exec (i : Instr) (s : State) : Host.Outcome State Fault Refusal :=
  match i with
  | .calibrate => Sys2Proof.Machine.execCalibrate s
  | .timeout => Sys2Proof.Machine.execTimeout s
  | .idleStart => Sys2Proof.Machine.execIdleStart s
  | .idleSkip => Sys2Proof.Machine.execIdleSkip s
  | .startV1 => Sys2Proof.Machine.execStartV1 s
  | .startV2 => Sys2Proof.Machine.execStartV2 s
  | .startOther => Sys2Proof.Machine.execStartOther s
  | .hmFlagsvar => Sys2Proof.Machine.execHmFlagsvar s
  | .hmKnown => Sys2Proof.Machine.execHmKnown s
  | .hmInvalid => Sys2Proof.Machine.execHmInvalid s
  | .v1Flags => Sys2Proof.Machine.execV1Flags s
  | .v1Size => Sys2Proof.Machine.execV1Size s
  | .v1FuncPayload => Sys2Proof.Machine.execV1FuncPayload s
  | .v1FuncEmpty => Sys2Proof.Machine.execV1FuncEmpty s
  | .v1FuncEncap => Sys2Proof.Machine.execV1FuncEncap s
  | .v1PayloadMore => Sys2Proof.Machine.execV1PayloadMore s
  | .v1PayloadLast => Sys2Proof.Machine.execV1PayloadLast s
  | .v1ChecksumOk => Sys2Proof.Machine.execV1ChecksumOk s
  | .v1ChecksumErr => Sys2Proof.Machine.execV1ChecksumErr s
  | .hxKnown => Sys2Proof.Machine.execHxKnown s
  | .hxInvalid => Sys2Proof.Machine.execHxInvalid s
  | .v2Flags => Sys2Proof.Machine.execV2Flags s
  | .v2Func1 => Sys2Proof.Machine.execV2Func1 s
  | .v2Func2 => Sys2Proof.Machine.execV2Func2 s
  | .v2Size1 => Sys2Proof.Machine.execV2Size1 s
  | .v2Size2Payload => Sys2Proof.Machine.execV2Size2Payload s
  | .v2Size2Empty => Sys2Proof.Machine.execV2Size2Empty s
  | .v2PayloadMore => Sys2Proof.Machine.execV2PayloadMore s
  | .v2PayloadLast => Sys2Proof.Machine.execV2PayloadLast s
  | .v2ChecksumOk => Sys2Proof.Machine.execV2ChecksumOk s
  | .v2ChecksumErr => Sys2Proof.Machine.execV2ChecksumErr s
  | .eFlags => Sys2Proof.Machine.execEFlags s
  | .eFunc1 => Sys2Proof.Machine.execEFunc1 s
  | .eFunc2 => Sys2Proof.Machine.execEFunc2 s
  | .eSize1 => Sys2Proof.Machine.execESize1 s
  | .eSize2 => Sys2Proof.Machine.execESize2 s
  | .ePayload => Sys2Proof.Machine.execEPayload s
  | .eChecksum => Sys2Proof.Machine.execEChecksum s
  | .illegal d p => Sys2Proof.Machine.execIllegal d p s
  | .xor8 c v => Sys2Proof.Machine.execXor8 c v s
  | .crc8 c v => Sys2Proof.Machine.execCrc8 c v s
  | .fdRun => Sys2Proof.Machine.execFdRun s
  | .fdOpaque => Sys2Proof.Machine.execFdOpaque s
  | .fdSkip => Sys2Proof.Machine.execFdSkip s
  | .fdFixedw => Sys2Proof.Machine.execFdFixedw s
  | .fdRest => Sys2Proof.Machine.execFdRest s
  | .fdIText => Sys2Proof.Machine.execFdIText s
  | .fdIFixed => Sys2Proof.Machine.execFdIFixed s
  | .fdIIndex => Sys2Proof.Machine.execFdIIndex s
  | .fdIMap => Sys2Proof.Machine.execFdIMap s
  | .fdIRaw => Sys2Proof.Machine.execFdIRaw s

end Sys2Proof.Machine
end

