-- ==== Sys2Proof/WellFormed.lean ====
section
/-! DEFINITION. What a well-formed operation, configuration and input are (R24, R9, R245). -/

namespace Sys2Proof

/-- An operation is well formed when, if it is `ILLEGAL`, its selector is one of the 41 illegal ones
(R131); every other operation is. -/
def Instr.wf : Instr → Bool
  | .illegal d p => !legalPair d p
  | _ => true

/-- The consistency the host ensures (R9, R244): if there is a flags-bearing transport type, it has a
name. -/
def Cfg.wf (c : Cfg) : Bool :=
  match c.ttFlagsVariant with
  | none => true
  | some t => (c.transportTypes.lookup t).isSome

/-- An input transaction does not end before it starts (R245). -/
def TimestampedByte.wf (b : TimestampedByte) : Bool := decide (b.startTime ≤ b.endTime)

/-- The order in which the host delivers bytes (R245): each is well formed and starts no earlier than
the one before it ended. -/
def orderedFrom (last : Nat) : List TimestampedByte → Bool
  | [] => true
  | b :: bs => decide (last ≤ b.startTime) && b.wf && orderedFrom b.endTime bs

end Sys2Proof
end

