-- ==== Sys2Proof/Decode.lean ====
section
/-! DEFINITION. The operation word, its decoder and its encoder (R78, R79, R81).

The low byte of an operation word is the selector of R79: `state` in bits 3..0, `decoder` in bits
5..4; bits 7..6 are outside every mask of the table and are not examined. The table gives no bits to
what chooses within a selector's group, nor to the rows that have no selector (`PRE`, `FUNC`,
`FIELD`). The high byte holds these (DESIGN CHOICE, log entry 4): bits 7..4 the row's format, bits
3..0 its place within its group, both counted from 0 in the table's order. A checksum engine's word is
followed by its two operand bytes. -/

namespace Sys2Proof

/-! ## The codes of the cursor (R78) -/

/-- The 4-bit code of a parser state (R78). -/
def stateCode : ParserState → BitVec 4
  | .idle => 0
  | .start => 1
  | .headerM => 2
  | .headerX => 3
  | .v1Flags => 4
  | .v1PayloadSize => 5
  | .v1PayloadFunc => 6
  | .v1Payload => 7
  | .v1Checksum => 8
  | .v2Flags => 9
  | .v2Func1 => 10
  | .v2Func2 => 11
  | .v2Size1 => 12
  | .v2Size2 => 13
  | .v2Payload => 14
  | .v2Checksum => 15

/-- The 2-bit code of a decoder tag (R78). -/
def decoderCode : DecoderTag → BitVec 2
  | .none => 0
  | .v1 => 1
  | .v2 => 2
  | .reserved => 3

/-- The parser state that has a code (R78). -/
def stateOfCode (c : BitVec 4) : ParserState :=
  match c.toNat with
  | 0 => .idle
  | 1 => .start
  | 2 => .headerM
  | 3 => .headerX
  | 4 => .v1Flags
  | 5 => .v1PayloadSize
  | 6 => .v1PayloadFunc
  | 7 => .v1Payload
  | 8 => .v1Checksum
  | 9 => .v2Flags
  | 10 => .v2Func1
  | 11 => .v2Func2
  | 12 => .v2Size1
  | 13 => .v2Size2
  | 14 => .v2Payload
  | _ => .v2Checksum

/-- The decoder tag that has a code (R78). -/
def decoderOfCode (c : BitVec 2) : DecoderTag :=
  match c.toNat with
  | 0 => .none
  | 1 => .v1
  | 2 => .v2
  | _ => .reserved

/-- The selector `sel = {S.decoder[1:0], S.state[3:0]}` (R79). -/
def selector (d : DecoderTag) (p : ParserState) : BitVec 6 := decoderCode d ++ stateCode p

/-! ## The groups of the operation map (R79, R81) -/

/-- The operations a selector can choose, in the table's order (R79, R81); an illegal selector chooses
`ILLEGAL` alone. -/
def stepGroup (d : DecoderTag) (p : ParserState) : List Instr :=
  match d, p with
  | .none, .idle => [.idleStart, .idleSkip]
  | .none, .start => [.startV1, .startV2, .startOther]
  | .v1, .headerM => [.hmFlagsvar, .hmKnown, .hmInvalid]
  | .v1, .v1Flags => [.v1Flags]
  | .v1, .v1PayloadSize => [.v1Size]
  | .v1, .v1PayloadFunc => [.v1FuncPayload, .v1FuncEmpty, .v1FuncEncap]
  | .v1, .v1Payload => [.v1PayloadMore, .v1PayloadLast]
  | .v1, .v1Checksum => [.v1ChecksumOk, .v1ChecksumErr]
  | .v1, .v2Flags => [.eFlags]
  | .v1, .v2Func1 => [.eFunc1]
  | .v1, .v2Func2 => [.eFunc2]
  | .v1, .v2Size1 => [.eSize1]
  | .v1, .v2Size2 => [.eSize2]
  | .v1, .v2Payload => [.ePayload]
  | .v1, .v2Checksum => [.eChecksum]
  | .v2, .headerX => [.hxKnown, .hxInvalid]
  | .v2, .v2Flags => [.v2Flags]
  | .v2, .v2Func1 => [.v2Func1]
  | .v2, .v2Func2 => [.v2Func2]
  | .v2, .v2Size1 => [.v2Size1]
  | .v2, .v2Size2 => [.v2Size2Payload, .v2Size2Empty]
  | .v2, .v2Payload => [.v2PayloadMore, .v2PayloadLast]
  | .v2, .v2Checksum => [.v2ChecksumOk, .v2ChecksumErr]
  | d, p => [.illegal d p]

/-- The rows of format `PRE`, in the table's order. -/
def preGroup : List Instr := [.calibrate, .timeout]

/-- The rows of format `FUNC`, in the table's order; each takes two operand bytes. -/
def funcGroup : List (Byte → Byte → Instr) := [.xor8, .crc8]

/-- The rows of format `FIELD`, in the table's order. -/
def fieldGroup : List Instr :=
  [.fdRun, .fdOpaque, .fdSkip, .fdFixedw, .fdRest, .fdIText, .fdIFixed, .fdIIndex, .fdIMap, .fdIRaw]

/-! ## The decoder -/

/-- Why a byte sequence is no operation word. -/
inductive DecodeReject where
  /-- Fewer than two bytes, or an engine's word without its operand bytes. -/
  | truncated
  /-- The format field is none of the table's four formats. -/
  | reservedFormat
  /-- The place within the group is past the group's last row. -/
  | noSuchRow
  deriving DecidableEq, Repr

/-- The row at a place of a group, with the bytes that follow the word. -/
def rowAt (group : List Instr) (k : Nat) (rest : List Byte) :
    Except DecodeReject (Instr × List Byte) :=
  match group[k]? with
  | some i => .ok (i, rest)
  | none => .error .noSuchRow

/-- The engine at a place of the `FUNC` group, with its operand bytes `c` and `v` (R100, R101). -/
def funcAt (k : Nat) (rest : List Byte) : Except DecodeReject (Instr × List Byte) :=
  match funcGroup[k]?, rest with
  | some f, c :: v :: rest' => .ok (f c v, rest')
  | some _, _ => .error .truncated
  | none, _ => .error .noSuchRow

/-- Reads one operation word from the front of a byte sequence: total, and rejecting by name. -/
def decode : List Byte → Except DecodeReject (Instr × List Byte)
  | lo :: hi :: rest =>
    let k := (hi.extractLsb' 0 4).toNat
    match (hi.extractLsb' 4 4).toNat with
    | 0 => rowAt (stepGroup (decoderOfCode (lo.extractLsb' 4 2)) (stateOfCode (lo.extractLsb' 0 4))) k rest
    | 1 => rowAt preGroup k rest
    | 2 => funcAt k rest
    | 3 => rowAt fieldGroup k rest
    | _ => .error .reservedFormat
  | _ => .error .truncated

/-! ## The encoder -/

/-- The word of a `STEP` row: its selector, and its place within the selector's group. -/
def stepWord (d : DecoderTag) (p : ParserState) (k : BitVec 4) : List Byte :=
  [(0#2) ++ selector d p, (0#4) ++ k]

/-- The word of a row without selector: its format and its place within it. -/
def plainWord (format k : BitVec 4) : List Byte := [0#8, format ++ k]

/-- The canonical words of an operation, written from R81 and the table's order. -/
def encode : Instr → List Byte
  | .calibrate => plainWord 1 0
  | .timeout => plainWord 1 1
  | .idleStart => stepWord .none .idle 0
  | .idleSkip => stepWord .none .idle 1
  | .startV1 => stepWord .none .start 0
  | .startV2 => stepWord .none .start 1
  | .startOther => stepWord .none .start 2
  | .hmFlagsvar => stepWord .v1 .headerM 0
  | .hmKnown => stepWord .v1 .headerM 1
  | .hmInvalid => stepWord .v1 .headerM 2
  | .v1Flags => stepWord .v1 .v1Flags 0
  | .v1Size => stepWord .v1 .v1PayloadSize 0
  | .v1FuncPayload => stepWord .v1 .v1PayloadFunc 0
  | .v1FuncEmpty => stepWord .v1 .v1PayloadFunc 1
  | .v1FuncEncap => stepWord .v1 .v1PayloadFunc 2
  | .v1PayloadMore => stepWord .v1 .v1Payload 0
  | .v1PayloadLast => stepWord .v1 .v1Payload 1
  | .v1ChecksumOk => stepWord .v1 .v1Checksum 0
  | .v1ChecksumErr => stepWord .v1 .v1Checksum 1
  | .hxKnown => stepWord .v2 .headerX 0
  | .hxInvalid => stepWord .v2 .headerX 1
  | .v2Flags => stepWord .v2 .v2Flags 0
  | .v2Func1 => stepWord .v2 .v2Func1 0
  | .v2Func2 => stepWord .v2 .v2Func2 0
  | .v2Size1 => stepWord .v2 .v2Size1 0
  | .v2Size2Payload => stepWord .v2 .v2Size2 0
  | .v2Size2Empty => stepWord .v2 .v2Size2 1
  | .v2PayloadMore => stepWord .v2 .v2Payload 0
  | .v2PayloadLast => stepWord .v2 .v2Payload 1
  | .v2ChecksumOk => stepWord .v2 .v2Checksum 0
  | .v2ChecksumErr => stepWord .v2 .v2Checksum 1
  | .eFlags => stepWord .v1 .v2Flags 0
  | .eFunc1 => stepWord .v1 .v2Func1 0
  | .eFunc2 => stepWord .v1 .v2Func2 0
  | .eSize1 => stepWord .v1 .v2Size1 0
  | .eSize2 => stepWord .v1 .v2Size2 0
  | .ePayload => stepWord .v1 .v2Payload 0
  | .eChecksum => stepWord .v1 .v2Checksum 0
  | .illegal d p => stepWord d p 0
  | .xor8 c v => plainWord 2 0 ++ [c, v]
  | .crc8 c v => plainWord 2 1 ++ [c, v]
  | .fdRun => plainWord 3 0
  | .fdOpaque => plainWord 3 1
  | .fdSkip => plainWord 3 2
  | .fdFixedw => plainWord 3 3
  | .fdRest => plainWord 3 4
  | .fdIText => plainWord 3 5
  | .fdIFixed => plainWord 3 6
  | .fdIIndex => plainWord 3 7
  | .fdIMap => plainWord 3 8
  | .fdIRaw => plainWord 3 9

/-! ## The table's numbering of bits -/

/-- The bytes of a word of `nbits` bits numbered as the table numbers them, bit 0 the least
significant of the first byte; the bits above `nbits` are 0, up to the longest operation word. -/
def tableBytes (nbits w : Nat) : List Byte :=
  let v := w % 2 ^ nbits
  [BitVec.ofNat 8 v, BitVec.ofNat 8 (v / 2 ^ 8), BitVec.ofNat 8 (v / 2 ^ 16), BitVec.ofNat 8 (v / 2 ^ 24)]

/-- The operation the decoder reads from a word numbered as the table numbers it. -/
def decodeTableWord (nbits w : Nat) : Option Instr :=
  match decode (tableBytes nbits w) with
  | .ok (i, _) => some i
  | .error _ => none

end Sys2Proof
end

