-- ==== Sys2Proof/Machine/Select.lean ====
section
/-! DEFINITION. The condition logic: which row of the selector's group a byte chooses, and the
operation word it makes with the selector (R79 to R81). -/

namespace Sys2Proof.Machine

/-- The place, within the selector's group, of the row whose condition holds (R80, R81). The conditions
are tried in an order that decides only for an inconsistent configuration, which the host excludes
(R9, log entry 8). -/
def chosenRow (s : State) : BitVec 4 :=
  let v := s.cur.value
  match s.frame.decoder, s.frame.state with
  | .none, .idle => if isStart s.cfg v then 0 else 1
  | .none, .start =>
    match lookupVersionTag s.cfg v with
    | some .v1 => 0
    | some .v2 => 1
    | none => 2
  | .v1, .headerM =>
    if isFlagsVar s.cfg v then 0 else if (lookupTransportType s.cfg v).isSome then 1 else 2
  | .v1, .v1PayloadFunc =>
    if s.frame.v1.expectedLen = 0 then 1 else if isEncapFunc s.cfg v then 2 else 0
  | .v1, .v1Payload => if v1Last s.frame then 1 else 0
  | .v1, .v1Checksum => if v = s.frame.crc1 then 0 else 1
  | .v2, .headerX => if (lookupTransportType s.cfg v).isSome then 0 else 1
  | .v2, .v2Size2 => if len16 s = 0#16 then 1 else 0
  | .v2, .v2Payload => if v2Last s.frame then 1 else 0
  | .v2, .v2Checksum => if v = s.frame.crc2 then 0 else 1
  | _, _ => 0

/-- The operation word of a state: its selector, and the row its condition logic chooses (R79). -/
def operationWord (s : State) : List Byte :=
  stepWord s.frame.decoder s.frame.state (chosenRow s)

/-- The pre-step operation: calibration on the first byte, the idle check on every other (R120). -/
def preOperation (s : State) : Instr := if s.timing.calibrated then .timeout else .calibrate

end Sys2Proof.Machine
end

