-- ==== Sys2Proof/Machine/Cycle.lean ====
section
/-! DEFINITION. One step of the machine (R120): what the host delivered next is taken, the pre-step
operation, the reset of an illegal selector and the chosen operation are performed, and the time is
kept. -/

namespace Sys2Proof.Machine

/-- Goes on from a next state, and stops where the answer is a stop. -/
def andThen (r : Result) (f : State → Result) : Result :=
  match r with
  | .next s => f s
  | .fault e => .fault e
  | .refused e => .refused e

/-- Takes a byte from the host: it is `b` for this step, and the output list is empty (R120). -/
def latch (b : TimestampedByte) (rest : List HostInput) (s : State) : State :=
  { s with cur := b, input := rest, out := [] }

/-- Performs the one operation the selector and the condition logic choose (R79, R120). -/
def runOperation (s : State) : Result :=
  match decode (operationWord s) with
  | .ok (i, _) => exec i s
  | .error _ => .fault .badOperationWord

/-- An illegal selector is reset first, by the operation `ILLEGAL` (R120, R131). -/
def legalise (s : State) : Result :=
  if legalPair s.frame.decoder s.frame.state then .next s else runOperation s

/-- The end of a step: `S.lastByteTime <- b.endTime` (R36, R120), and the step's labels join the output
stream (R71). -/
def closeStep (s : State) : State :=
  { s with
    timing := { s.timing with lastByteTime := s.cur.endTime }
    stream := s.stream ++ s.out }

/-- The step of R120 for a byte that has been taken. -/
def byteStep (s : State) : Result :=
  andThen (exec (preOperation s) s) fun t =>
    andThen (legalise t) fun u => andThen (runOperation u) fun v => .next (closeStep v)

/-- One step: nothing without input (R229), hardware reset (R240), or a byte (R120). -/
def cycle (s : State) : Result :=
  match s.input with
  | [] => .next s
  | .reset :: rest => .next (hardwareReset { s with input := rest })
  | .byte b :: rest => byteStep (latch b rest s)

end Sys2Proof.Machine
end

