-- ==== Sys2Proof/Machine/Fetch.lean ====
section
/-! DEFINITION. Placing an operation where the next step runs it (log entry 12). The hardware stores no
instructions: an operation runs when the cursor holds its selector and a byte meets its condition. So
an operation is placed by setting the cursor, delivering one byte, and setting the registers and
configuration entries its condition reads. A sub-function (`FUNC`, `FIELD`) is placed by placing the
operation that calls it. -/

namespace Sys2Proof.Machine

/-- Puts a byte in front of what the host delivers, without a gap after the last one. -/
def deliver (v : Byte) (s : State) : State :=
  { s with
    input :=
      .byte { value := v, startTime := s.timing.lastByteTime, endTime := s.timing.lastByteTime }
        :: s.input }

/-- Sets the cursor. -/
def setCursor (d : DecoderTag) (p : ParserState) (s : State) : State := setState p (setDecoder d s)

/-- Makes the byte 0 a version tag, or none. -/
def setTag (t : Option ProtoVersion) (s : State) : State :=
  let others := s.cfg.versionTags.filter fun e => e.1 != 0#8
  { s with
    cfg :=
      { s.cfg with
        versionTags :=
          match t with
          | some ver => (0#8, ver) :: others
          | none => others } }

/-- Makes the byte 0 a transport sub-type with an empty name, or none; and the flags-bearing one, or
not. -/
def setType (known flags : Bool) (s : State) : State :=
  let others := s.cfg.transportTypes.filter fun e => e.1 != 0#8
  { s with
    cfg :=
      { s.cfg with
        transportTypes := if known then (0#8, "") :: others else others
        ttFlagsVariant :=
          if flags then some 0#8
          else if s.cfg.ttFlagsVariant = some 0#8 then none
          else s.cfg.ttFlagsVariant } }

/-- Gives the pending v1 function a layout, or none. -/
def setLayout (lay : Option Layout) (s : State) : State :=
  let id := s.frame.v1.funcId.toNat
  let others := s.cfg.fieldLayouts.filter fun e => e.1 != id
  { s with
    cfg :=
      { s.cfg with
        fieldLayouts :=
          match lay with
          | some l => (id, l) :: others
          | none => others } }

/-- The last byte of a one-byte v1 payload whose function has the layout: the field decoder runs. -/
def placeLast (lay : Option Layout) (s : State) : State :=
  deliver 0#8 (setCursor .v1 .v1Payload (setV1Count 1 0 (setLayout lay (bufClear s))))

/-- A layout of one descriptor. -/
def oneField (w : Int) (i : Interpretation) : Option Layout := some [{ width := w, interp := i }]

/-- The state whose next step runs the operation. -/
def placeOp (i : Instr) (s : State) : State :=
  match i with
  | .calibrate => deliver 0#8 { s with timing := { s.timing with calibrated := false } }
  | .timeout => deliver 0#8 { s with timing := { s.timing with calibrated := true } }
  | .idleStart => deliver s.cfg.startMarker (setCursor .none .idle s)
  | .idleSkip => deliver (s.cfg.startMarker + 1#8) (setCursor .none .idle s)
  | .startV1 => deliver 0#8 (setCursor .none .start (setTag (some .v1) s))
  | .startV2 => deliver 0#8 (setCursor .none .start (setTag (some .v2) s))
  | .startOther => deliver 0#8 (setCursor .none .start (setTag none s))
  | .hmFlagsvar => deliver 0#8 (setCursor .v1 .headerM (setType true true s))
  | .hmKnown => deliver 0#8 (setCursor .v1 .headerM (setType true false s))
  | .hmInvalid => deliver 0#8 (setCursor .v1 .headerM (setType false false s))
  | .v1Flags => deliver 0#8 (setCursor .v1 .v1Flags s)
  | .v1Size => deliver 0#8 (setCursor .v1 .v1PayloadSize s)
  | .v1FuncPayload =>
    deliver (s.cfg.funcV2Frame + 1#8) (setCursor .v1 .v1PayloadFunc (setV1Count 1 0 s))
  | .v1FuncEmpty => deliver 0#8 (setCursor .v1 .v1PayloadFunc (setV1Count 0 0 s))
  | .v1FuncEncap => deliver s.cfg.funcV2Frame (setCursor .v1 .v1PayloadFunc (setV1Count 1 0 s))
  | .v1PayloadMore => deliver 0#8 (setCursor .v1 .v1Payload (setV1Count 2 0 s))
  | .v1PayloadLast => deliver 0#8 (setCursor .v1 .v1Payload (setV1Count 1 0 s))
  | .v1ChecksumOk => deliver s.frame.crc1 (setCursor .v1 .v1Checksum s)
  | .v1ChecksumErr => deliver (s.frame.crc1 + 1#8) (setCursor .v1 .v1Checksum s)
  | .hxKnown => deliver 0#8 (setCursor .v2 .headerX (setType true false s))
  | .hxInvalid => deliver 0#8 (setCursor .v2 .headerX (setType false false s))
  | .v2Flags => deliver 0#8 (setCursor .v2 .v2Flags s)
  | .v2Func1 => deliver 0#8 (setCursor .v2 .v2Func1 s)
  | .v2Func2 => deliver 0#8 (setCursor .v2 .v2Func2 s)
  | .v2Size1 => deliver 0#8 (setCursor .v2 .v2Size1 s)
  | .v2Size2Payload => deliver 1#8 (setCursor .v2 .v2Size2 s)
  | .v2Size2Empty => deliver 0#8 (setCursor .v2 .v2Size2 (setLenAcc 0#16 s))
  | .v2PayloadMore => deliver 0#8 (setCursor .v2 .v2Payload (setV2Count 2 0 s))
  | .v2PayloadLast => deliver 0#8 (setCursor .v2 .v2Payload (setV2Count 1 0 s))
  | .v2ChecksumOk => deliver s.frame.crc2 (setCursor .v2 .v2Checksum s)
  | .v2ChecksumErr => deliver (s.frame.crc2 + 1#8) (setCursor .v2 .v2Checksum s)
  | .eFlags => deliver 0#8 (setCursor .v1 .v2Flags s)
  | .eFunc1 => deliver 0#8 (setCursor .v1 .v2Func1 s)
  | .eFunc2 => deliver 0#8 (setCursor .v1 .v2Func2 s)
  | .eSize1 => deliver 0#8 (setCursor .v1 .v2Size1 s)
  | .eSize2 => deliver 0#8 (setCursor .v1 .v2Size2 s)
  | .ePayload => deliver 0#8 (setCursor .v1 .v2Payload s)
  | .eChecksum => deliver 0#8 (setCursor .v1 .v2Checksum s)
  | .illegal d p => deliver 0#8 (setCursor d p s)
  | .xor8 c v => deliver v (setCursor .v1 .v1PayloadSize (setCrc1 c s))
  | .crc8 c v => deliver v (setCursor .v2 .v2Func1 (setCrc2 c s))
  | .fdRun => placeLast (some []) s
  | .fdOpaque => placeLast none s
  | .fdSkip => placeLast (oneField 0 .rawInteger) s
  | .fdFixedw => placeLast (oneField 1 .rawInteger) s
  | .fdRest => placeLast (oneField (-1) .rawInteger) s
  | .fdIText => placeLast (oneField (-1) .text) s
  | .fdIFixed => placeLast (oneField 1 (.fixedLabel "")) s
  | .fdIIndex => placeLast (oneField 1 (.indexLookup [])) s
  | .fdIMap => placeLast (oneField 1 (.valueLookup [])) s
  | .fdIRaw => placeLast (oneField 1 .rawInteger) s

/-- Places the operation of a table word; a word the decoder refuses changes nothing. -/
def placeWord (s : State) (nbits w : Nat) : State :=
  match decodeTableWord nbits w with
  | some i => placeOp i s
  | none => s

end Sys2Proof.Machine
end

