-- ==== Sys2Proof/Machine/Step.lean ====
section
/-! DEFINITION. The step function, and the state whose next step runs a given operation word. -/

namespace Sys2Proof.Machine

/-- One step of the machine (R120). -/
def step (s : State) : Host.Outcome State Fault Refusal := cycle s

/-- The state in which the very next step runs the operation of a table word (log entry 12). -/
def State.withFetchWord (s : State) (nbits w : Nat) : State := placeWord s nbits w

end Sys2Proof.Machine
end

