-- ==== Sys2Proof/Machine/Errors.lean ====
section
/-! DEFINITION. Which error conditions an operation signals in a state (R221 to R226, R230). Names for
statements only: the hardware records none of them (R220). -/

namespace Sys2Proof.Machine

/-- `E_UNKNOWN_FUNCTION` when the registry answers the sentinel (R224). -/
def nameConditions (name : String) : List ErrorCond :=
  if name = "UNKNOWN" then [.unknownFunction] else []

/-- `E_ENUM_RANGE` once for each offending field, in layout order (R225, R230). -/
def fieldConditions (lay : Option Layout) (buf : Memory) : List ErrorCond :=
  match lay with
  | none => []
  | some l =>
    (walk buf l 0).flatMap fun f =>
      if enumOutOfRange f.1.interp (bigEndian f.2) then [.enumRange] else []

/-- The conditions the operations `V1.FUNC.*` signal (R145 to R147). -/
def v1FuncConditions (s : State) : List ErrorCond :=
  nameConditions (nameForFunction s.cfg .v1 s.cur.value.toNat)

/-- The conditions `V2.FUNC2` and `E.FUNC2` signal (R164, R183). -/
def v2FuncConditions (s : State) : List ErrorCond :=
  nameConditions
    (nameForFunction s.cfg .v2 (withLowByte s.frame.v2.funcAcc s.cur.value).toNat)

/-- The error conditions an operation signals in a state, in order (R221 to R226). -/
def conditionsOf (i : Instr) (s : State) : List ErrorCond :=
  match i with
  | .hmInvalid | .hxInvalid => [.badTransport]
  | .startOther => [.badVersion]
  | .v1ChecksumErr | .v2ChecksumErr => [.crcMismatch]
  | .eChecksum => if s.cur.value = s.frame.crc2 then [] else [.crcMismatch]
  | .v1FuncPayload | .v1FuncEmpty | .v1FuncEncap => v1FuncConditions s
  | .v2Func2 | .eFunc2 => v2FuncConditions s
  | .v1PayloadLast =>
    fieldConditions (fieldLayout s.cfg s.frame.v1.funcId.toNat) (s.frame.payloadBuffer ++ [s.cur])
  | .fdRun =>
    fieldConditions (fieldLayout s.cfg s.frame.v1.funcId.toNat) s.frame.payloadBuffer
  | .fdIIndex =>
    match s.field.desc.interp with
    | .indexLookup l => if l.length ≤ s.field.value then [.enumRange] else []
    | _ => []
  | .fdIMap =>
    match s.field.desc.interp with
    | .valueLookup m => if (m.lookup s.field.value).isNone then [.enumRange] else []
    | _ => []
  | .timeout => if idleExceeded s && s.frame.state != .idle then [.idleTimeout] else []
  | .calibrate | .idleStart | .idleSkip | .startV1 | .startV2 | .hmFlagsvar | .hmKnown | .v1Flags
  | .v1Size | .v1PayloadMore | .v1ChecksumOk | .hxKnown | .v2Flags | .v2Func1 | .v2Size1
  | .v2Size2Payload | .v2Size2Empty | .v2PayloadMore | .v2PayloadLast | .v2ChecksumOk | .eFlags
  | .eFunc1 | .eSize1 | .eSize2 | .ePayload | .illegal _ _ | .xor8 _ _ | .crc8 _ _ | .fdOpaque
  | .fdSkip | .fdFixedw | .fdRest | .fdIText | .fdIFixed | .fdIRaw => []

end Sys2Proof.Machine
end

