-- ==== Sys2Proof/Safety.lean ====
section
/-! DEFINITION. The terms statements use: the Session invariant (R24, R41, R42, R52), the operation map
(R81), which register an operation may write (R48), and what it is for two states to agree on part of
the Session. -/

namespace Sys2Proof.Machine

/-- What every reachable Session satisfies: a legal cursor (R24), the widths of the counters (R26 to
R30), the counter invariant (R41), the rest state (R42), the buffer's bound by the count of the frame
it belongs to (R52), and what no byte has touched yet (R28, R38, R144). -/
structure SessionInv (s : State) : Prop where
  /-- R24 -/
  legal : legalPair s.frame.decoder s.frame.state = true
  /-- R26: the declared v1 length fits 8 bits -/
  v1Width : s.frame.v1.expectedLen ≤ 255
  /-- R29: the declared v2 length fits 16 bits -/
  v2Width : s.frame.v2.expectedLen ≤ 65535
  /-- R41 -/
  v1Count : s.frame.v1.receivedCount ≤ s.frame.v1.expectedLen
  /-- R41 -/
  v2Count : s.frame.v2.receivedCount ≤ s.frame.v2.expectedLen
  /-- R41: in `V1_PAYLOAD` and in encapsulated mode the outer payload is not complete -/
  v1Open : (s.frame.state = .v1Payload ∨ encap s.frame = true) →
    s.frame.v1.receivedCount < s.frame.v1.expectedLen
  /-- R41: in `V2_PAYLOAD` the v2 payload is not complete -/
  v2Open : s.frame.state = .v2Payload → s.frame.v2.receivedCount < s.frame.v2.expectedLen
  /-- R144: nothing is counted before the function byte -/
  v1Fresh : s.frame.state = .v1PayloadFunc → s.frame.v1.receivedCount = 0
  /-- R144: the v1 checksum is 0 until the length byte -/
  v1CrcFresh :
    (s.frame.state = .headerM ∨ s.frame.state = .v1Flags ∨ s.frame.state = .v1PayloadSize) →
      s.frame.crc1 = 0#8
  /-- R42: in `IDLE` the frame state is at its reset values -/
  rest : s.frame.state = .idle → s.frame = Frame.reset
  /-- R125: in `START` only the cursor has moved -/
  started : s.frame.state = .start → s.frame = { Frame.reset with state := .start }
  /-- R52: in a v1 frame, plain or encapsulating, every buffered byte was counted -/
  v1Buffer : s.frame.decoder = .v1 → s.frame.payloadBuffer.length ≤ s.frame.v1.receivedCount
  /-- R52: in a standalone v2 frame every buffered byte was counted -/
  v2Buffer : s.frame.decoder = .v2 → s.frame.payloadBuffer.length ≤ s.frame.v2.receivedCount
  /-- R38, R46: before the first byte the Session is in the reset state -/
  uncalibrated : s.timing.calibrated = false →
    s.frame = Frame.reset ∧ s.timing = Timing.reset

/-- The pre-step finds no idle timeout: the byte is the first one, or its gap is within the window
(R120, R123). -/
def withinWindow (s : State) (b : TimestampedByte) : Bool :=
  !s.timing.calibrated ||
    decide (19 * (b.startTime - s.timing.lastByteTime) ≤ 60 * s.timing.calDuration)

/-- Two states agree on all but the registers only a v1 frame uses: `v1.*` and `crc1` (R35, R45). -/
def agreeButV1 (s t : State) : Prop :=
  { s with frame := { s.frame with v1 := t.frame.v1, crc1 := t.frame.crc1 } } = t

/-- Two states agree on all but the registers only a v2 frame uses: `v2.*` and `crc2` (R35, R45). -/
def agreeButV2 (s t : State) : Prop :=
  { s with frame := { s.frame with v2 := t.frame.v2, crc2 := t.frame.crc2 } } = t

/-! ## The operation map (R81) -/

/-- The selector and the condition logic choose the operation (R79, R80). -/
def chooses (s : State) (i : Instr) : Prop := decode (operationWord s) = .ok (i, [])

/-- The cursor is at the pair (R24). -/
def cursorAt (s : State) (d : DecoderTag) (p : ParserState) : Prop :=
  s.frame.decoder = d ∧ s.frame.state = p

/-- The selector and the condition of an operation's row (R80, R81). The rows without a selector are
chosen by no condition on the cursor. -/
def rowCondition (i : Instr) (s : State) : Prop :=
  let v := s.cur.value
  match i with
  | .idleStart => cursorAt s .none .idle ∧ v = s.cfg.startMarker
  | .idleSkip => cursorAt s .none .idle ∧ v ≠ s.cfg.startMarker
  | .startV1 => cursorAt s .none .start ∧ lookupVersionTag s.cfg v = some .v1
  | .startV2 => cursorAt s .none .start ∧ lookupVersionTag s.cfg v = some .v2
  | .startOther => cursorAt s .none .start ∧ lookupVersionTag s.cfg v = none
  | .illegal d p => cursorAt s d p ∧ legalPair d p = false
  | .hmFlagsvar => cursorAt s .v1 .headerM ∧ s.cfg.ttFlagsVariant = some v
  | .hmKnown =>
    cursorAt s .v1 .headerM ∧ lookupTransportType s.cfg v ≠ none ∧ s.cfg.ttFlagsVariant ≠ some v
  | .hmInvalid => cursorAt s .v1 .headerM ∧ lookupTransportType s.cfg v = none
  | .v1Flags => cursorAt s .v1 .v1Flags
  | .v1Size => cursorAt s .v1 .v1PayloadSize
  | .v1FuncPayload =>
    cursorAt s .v1 .v1PayloadFunc ∧ 0 < s.frame.v1.expectedLen ∧ v ≠ s.cfg.funcV2Frame
  | .v1FuncEmpty => cursorAt s .v1 .v1PayloadFunc ∧ s.frame.v1.expectedLen = 0
  | .v1FuncEncap =>
    cursorAt s .v1 .v1PayloadFunc ∧ 0 < s.frame.v1.expectedLen ∧ v = s.cfg.funcV2Frame
  | .v1PayloadMore =>
    cursorAt s .v1 .v1Payload ∧ s.frame.v1.receivedCount + 1 ≠ s.frame.v1.expectedLen
  | .v1PayloadLast =>
    cursorAt s .v1 .v1Payload ∧ s.frame.v1.receivedCount + 1 = s.frame.v1.expectedLen
  | .v1ChecksumOk => cursorAt s .v1 .v1Checksum ∧ v = s.frame.crc1
  | .v1ChecksumErr => cursorAt s .v1 .v1Checksum ∧ v ≠ s.frame.crc1
  | .hxKnown => cursorAt s .v2 .headerX ∧ lookupTransportType s.cfg v ≠ none
  | .hxInvalid => cursorAt s .v2 .headerX ∧ lookupTransportType s.cfg v = none
  | .v2Flags => cursorAt s .v2 .v2Flags
  | .v2Func1 => cursorAt s .v2 .v2Func1
  | .v2Func2 => cursorAt s .v2 .v2Func2
  | .v2Size1 => cursorAt s .v2 .v2Size1
  | .v2Size2Payload => cursorAt s .v2 .v2Size2 ∧ 0 < (len16 s).toNat
  | .v2Size2Empty => cursorAt s .v2 .v2Size2 ∧ (len16 s).toNat = 0
  | .v2PayloadMore =>
    cursorAt s .v2 .v2Payload ∧ s.frame.v2.receivedCount + 1 ≠ s.frame.v2.expectedLen
  | .v2PayloadLast =>
    cursorAt s .v2 .v2Payload ∧ s.frame.v2.receivedCount + 1 = s.frame.v2.expectedLen
  | .v2ChecksumOk => cursorAt s .v2 .v2Checksum ∧ v = s.frame.crc2
  | .v2ChecksumErr => cursorAt s .v2 .v2Checksum ∧ v ≠ s.frame.crc2
  | .eFlags => cursorAt s .v1 .v2Flags
  | .eFunc1 => cursorAt s .v1 .v2Func1
  | .eFunc2 => cursorAt s .v1 .v2Func2
  | .eSize1 => cursorAt s .v1 .v2Size1
  | .eSize2 => cursorAt s .v1 .v2Size2
  | .ePayload => cursorAt s .v1 .v2Payload
  | .eChecksum => cursorAt s .v1 .v2Checksum
  | .calibrate | .timeout | .xor8 _ _ | .crc8 _ _ | .fdRun | .fdOpaque | .fdSkip | .fdFixedw | .fdRest
  | .fdIText | .fdIFixed | .fdIIndex | .fdIMap | .fdIRaw => False

/-- The next state in encapsulated mode: the outer count decides first (R180). -/
def outerNext (s : State) (n : ParserState) : ParserState :=
  if s.frame.v1.receivedCount + 1 = s.frame.v1.expectedLen then .v1Checksum else n

/-- The next cursor of an operation's row (R81); `ILLEGAL` leaves the frame-reset cursor (R131). A row
without a selector names none. -/
def rowNext (i : Instr) (s : State) : Option (DecoderTag × ParserState) :=
  match i with
  | .idleStart => some (.none, .start)
  | .idleSkip => some (.none, .idle)
  | .startV1 => some (.v1, .headerM)
  | .startV2 => some (.v2, .headerX)
  | .startOther => some (.none, .start)
  | .illegal _ _ => some (.none, .idle)
  | .hmFlagsvar => some (.v1, .v1Flags)
  | .hmKnown | .hmInvalid | .v1Flags => some (.v1, .v1PayloadSize)
  | .v1Size => some (.v1, .v1PayloadFunc)
  | .v1FuncPayload => some (.v1, .v1Payload)
  | .v1FuncEmpty => some (.v1, .v1Checksum)
  | .v1FuncEncap => some (.v1, .v2Flags)
  | .v1PayloadMore => some (.v1, .v1Payload)
  | .v1PayloadLast => some (.v1, .v1Checksum)
  | .v1ChecksumOk | .v1ChecksumErr => some (.none, .idle)
  | .hxKnown | .hxInvalid => some (.v2, .v2Flags)
  | .v2Flags => some (.v2, .v2Func1)
  | .v2Func1 => some (.v2, .v2Func2)
  | .v2Func2 => some (.v2, .v2Size1)
  | .v2Size1 => some (.v2, .v2Size2)
  | .v2Size2Payload => some (.v2, .v2Payload)
  | .v2Size2Empty => some (.v2, .v2Checksum)
  | .v2PayloadMore => some (.v2, .v2Payload)
  | .v2PayloadLast => some (.v2, .v2Checksum)
  | .v2ChecksumOk | .v2ChecksumErr => some (.none, .idle)
  | .eFlags => some (.v1, outerNext s .v2Func1)
  | .eFunc1 => some (.v1, outerNext s .v2Func2)
  | .eFunc2 => some (.v1, outerNext s .v2Size1)
  | .eSize1 => some (.v1, outerNext s .v2Size2)
  | .eSize2 =>
    some (.v1, outerNext s (if (len16 s).toNat = 0 then .v2Checksum else .v2Payload))
  | .ePayload =>
    some
      (.v1,
        outerNext s
          (if s.frame.v2.receivedCount + 1 = s.frame.v2.expectedLen then .v2Checksum
          else .v2Payload))
  | .eChecksum => some (.v1, outerNext s .v1Payload)
  | .calibrate | .timeout | .xor8 _ _ | .crc8 _ _ | .fdRun | .fdOpaque | .fdSkip | .fdFixedw | .fdRest
  | .fdIText | .fdIFixed | .fdIIndex | .fdIMap | .fdIRaw => none

/-- The state in which the step on a delivered byte chooses its operation: the byte is taken, the output
list is empty, and the pre-step is done (R120, R122, R123). -/
def prepared (b : TimestampedByte) (rest : List HostInput) (s : State) : State :=
  if s.timing.calibrated then
    { s with
      cur := b, input := rest, out := []
      frame :=
        if 60 * s.timing.calDuration < 19 * (b.startTime - s.timing.lastByteTime) then Frame.reset
        else s.frame }
  else
    { s with
      cur := b, input := rest, out := []
      timing := { s.timing with calDuration := b.endTime - b.startTime, calibrated := true } }

/-- A label over the span of the current byte (R83; the span is the spec's choice D16). -/
def byteLabel (s : State) (t : String) : LabeledField :=
  { startTime := s.cur.startTime, endTime := s.cur.endTime, kind := .info, text := t }

/-! ## Which operation writes what (R48) -/

/-- The registers of the Session (R48), and the model's own ports. -/
inductive Register where
  | state
  | decoder
  | payloadBuffer
  | v1ExpectedLen
  | v1ReceivedCount
  | v1FuncId
  | v2ExpectedLen
  | v2ReceivedCount
  | v2FuncAcc
  | v2FuncStart
  | v2LenAcc
  | v2LenStart
  | crc1
  | crc2
  | lastByteTime
  | calDuration
  | calibrated
  | cfg
  | cur
  | input
  | out
  | stream
  | fnResult
  | field
  deriving DecidableEq, Repr

/-- A register holds the same value in two states. -/
def sameRegister (r : Register) (s t : State) : Prop :=
  match r with
  | .state => t.frame.state = s.frame.state
  | .decoder => t.frame.decoder = s.frame.decoder
  | .payloadBuffer => t.frame.payloadBuffer = s.frame.payloadBuffer
  | .v1ExpectedLen => t.frame.v1.expectedLen = s.frame.v1.expectedLen
  | .v1ReceivedCount => t.frame.v1.receivedCount = s.frame.v1.receivedCount
  | .v1FuncId => t.frame.v1.funcId = s.frame.v1.funcId
  | .v2ExpectedLen => t.frame.v2.expectedLen = s.frame.v2.expectedLen
  | .v2ReceivedCount => t.frame.v2.receivedCount = s.frame.v2.receivedCount
  | .v2FuncAcc => t.frame.v2.funcAcc = s.frame.v2.funcAcc
  | .v2FuncStart => t.frame.v2.funcStart = s.frame.v2.funcStart
  | .v2LenAcc => t.frame.v2.lenAcc = s.frame.v2.lenAcc
  | .v2LenStart => t.frame.v2.lenStart = s.frame.v2.lenStart
  | .crc1 => t.frame.crc1 = s.frame.crc1
  | .crc2 => t.frame.crc2 = s.frame.crc2
  | .lastByteTime => t.timing.lastByteTime = s.timing.lastByteTime
  | .calDuration => t.timing.calDuration = s.timing.calDuration
  | .calibrated => t.timing.calibrated = s.timing.calibrated
  | .cfg => t.cfg = s.cfg
  | .cur => t.cur = s.cur
  | .input => t.input = s.input
  | .out => t.out = s.out
  | .stream => t.stream = s.stream
  | .fnResult => t.fnResult = s.fnResult
  | .field => t.field = s.field

/-- What a frame reset writes: every register of the frame state (R20, R124). -/
def frameRegisters : List Register :=
  [.state, .decoder, .payloadBuffer, .v1ExpectedLen, .v1ReceivedCount, .v1FuncId, .v2ExpectedLen,
    .v2ReceivedCount, .v2FuncAcc, .v2FuncStart, .v2LenAcc, .v2LenStart, .crc1, .crc2]

/-- What the wrapper of an encapsulated operation writes (R180). -/
def wrapperRegisters : List Register := [.state, .v1ReceivedCount, .crc1]

/-- The registers an operation may write: the table of R48 read by operation, with the output list and
the model's ports. -/
def writes (i : Instr) : List Register :=
  match i with
  | .calibrate => [.calDuration, .calibrated]
  | .timeout => frameRegisters
  | .idleStart => .out :: frameRegisters
  | .idleSkip => []
  | .startV1 | .startV2 => [.state, .decoder, .out]
  | .startOther => []
  | .illegal _ _ => frameRegisters
  | .hmFlagsvar | .hmKnown | .hmInvalid | .v1Flags => [.state, .out]
  | .v1Size => [.state, .payloadBuffer, .v1ExpectedLen, .v1ReceivedCount, .crc1, .out]
  | .v1FuncPayload | .v1FuncEmpty | .v1FuncEncap => [.state, .v1FuncId, .crc1, .out]
  | .v1PayloadMore => [.payloadBuffer, .v1ReceivedCount, .crc1]
  | .v1PayloadLast => [.state, .payloadBuffer, .v1ReceivedCount, .crc1, .out]
  | .v1ChecksumOk | .v1ChecksumErr => .out :: frameRegisters
  | .hxKnown | .hxInvalid => [.state, .out]
  | .v2Flags => [.state, .crc2, .out]
  | .v2Func1 => [.state, .crc2, .v2FuncAcc, .v2FuncStart]
  | .v2Func2 => [.state, .crc2, .v2FuncAcc, .out]
  | .v2Size1 => [.state, .crc2, .v2LenAcc, .v2LenStart]
  | .v2Size2Payload | .v2Size2Empty =>
    [.state, .crc2, .v2LenAcc, .payloadBuffer, .v2ExpectedLen, .v2ReceivedCount, .out]
  | .v2PayloadMore => [.payloadBuffer, .crc2, .v2ReceivedCount, .out]
  | .v2PayloadLast => [.state, .payloadBuffer, .crc2, .v2ReceivedCount, .out]
  | .v2ChecksumOk | .v2ChecksumErr => .out :: frameRegisters
  | .eFlags => wrapperRegisters ++ [.crc2, .out]
  | .eFunc1 => wrapperRegisters ++ [.crc2, .v2FuncAcc, .v2FuncStart]
  | .eFunc2 => wrapperRegisters ++ [.crc2, .v2FuncAcc, .out]
  | .eSize1 => wrapperRegisters ++ [.crc2, .v2LenAcc, .v2LenStart]
  | .eSize2 =>
    wrapperRegisters ++ [.crc2, .v2LenAcc, .payloadBuffer, .v2ExpectedLen, .v2ReceivedCount, .out]
  | .ePayload => wrapperRegisters ++ [.payloadBuffer, .crc2, .v2ReceivedCount, .out]
  | .eChecksum => wrapperRegisters ++ [.out]
  | .xor8 _ _ | .crc8 _ _ => [.fnResult]
  | .fdSkip => []
  | .fdRun | .fdOpaque | .fdFixedw | .fdRest | .fdIText | .fdIFixed | .fdIIndex | .fdIMap | .fdIRaw =>
    [.field]

/-- The operations that append the current byte to the payload buffer (R51). -/
def appends (i : Instr) : Bool :=
  i == .v1PayloadMore || i == .v1PayloadLast || i == .v2PayloadMore || i == .v2PayloadLast
    || i == .ePayload

/-- The operations that make the payload buffer empty: `BufClear()` and `FrameReset()` (R53). -/
def clears (i : Instr) : Bool :=
  match i with
  | .v1Size | .v2Size2Payload | .v2Size2Empty | .eSize2 | .idleStart | .illegal _ _
  | .v1ChecksumOk | .v1ChecksumErr | .v2ChecksumOk | .v2ChecksumErr => true
  | .calibrate | .timeout | .idleSkip | .startV1 | .startV2 | .startOther | .hmFlagsvar | .hmKnown
  | .hmInvalid | .v1Flags | .v1FuncPayload | .v1FuncEmpty | .v1FuncEncap | .v1PayloadMore
  | .v1PayloadLast | .hxKnown | .hxInvalid | .v2Flags | .v2Func1 | .v2Func2 | .v2Size1
  | .v2PayloadMore | .v2PayloadLast | .eFlags | .eFunc1 | .eFunc2 | .eSize1 | .ePayload | .eChecksum
  | .xor8 _ _ | .crc8 _ _ | .fdRun | .fdOpaque | .fdSkip | .fdFixedw | .fdRest | .fdIText | .fdIFixed
  | .fdIIndex | .fdIMap | .fdIRaw => false

end Sys2Proof.Machine
end

