-- ==== Sys2Proof/Certificates/Slice0/Obligations.lean ====
section
/-! DEFINITION. The statements for the provers. Each docstring names the rules of the spec it rests on;
where a clause rests on a choice, of the spec's own (`D<n>` of `92_eei_decisions.md`) or of the model
(log entry `<n>`), it says so. -/

section

open Sys2Proof Sys2Proof.Machine

/-! ## What each operation does: the pre-step, `IDLE` and `START` -/

/-- `CALIBRATE` (R122) stores the byte's duration, `monus` (D35), and `TIMEOUT` (R123) resets the frame
exactly when `19 * gap > 60 * calDuration` (strict: D2); each changes nothing else. That the timing
registers survive the reset is the spec's choice D4. The exact comparison in ticks is the spec's choice
D1. Also the spec's own: the reset values but `IDLE` and the checksums' 0 (D5). -/
def Obligations.PreStepCalibratesOrTimesOut : Prop :=
  ∀ s : State,
    exec .calibrate s =
        .next
          { s with
            timing :=
              { s.timing with
                calDuration := s.cur.endTime - s.cur.startTime
                calibrated := true } } ∧
      exec .timeout s =
        .next
          (if 60 * s.timing.calDuration < 19 * (s.cur.startTime - s.timing.lastByteTime) then
            { s with frame := Frame.reset }
          else s)

/-- `IDLE.START` (R125): frame reset (D30), the label `Start`, and the state `START`. That the timing
registers survive it is the spec's choice D4. Also the spec's own: the reset values but `IDLE` and the
checksums' 0 (D5); a one-byte label spans its byte (R83, D16). -/
def Obligations.IdleStartBeginsAFrame : Prop :=
  ∀ s : State,
    exec .idleStart s =
      .next
        { s with
          frame := { Frame.reset with state := .start }
          out := s.out ++ [byteLabel s "Start"] }

/-- `IDLE.SKIP` (R126) changes nothing; `START.V1` (R127) and `START.V2` (R128) select the decoder, emit
one label and name the next state. Each is chosen exactly on its selector and condition. Also the spec's
own: a one-byte label spans its byte (R83, D16). -/
def Obligations.SkipAndVersionSelection : Prop :=
  ∀ s : State,
    (chooses s .idleSkip ↔ cursorAt s .none .idle ∧ s.cur.value ≠ s.cfg.startMarker) ∧
      (chooses s .startV1 ↔
        cursorAt s .none .start ∧ lookupVersionTag s.cfg s.cur.value = some .v1) ∧
      (chooses s .startV2 ↔
        cursorAt s .none .start ∧ lookupVersionTag s.cfg s.cur.value = some .v2) ∧
      exec .idleSkip s = .next s ∧
      exec .startV1 s =
        .next
          { s with
            frame := { s.frame with decoder := .v1, state := .headerM }
            out := s.out ++ [byteLabel s "MSPv1"] } ∧
      exec .startV2 s =
        .next
          { s with
            frame := { s.frame with decoder := .v2, state := .headerX }
            out := s.out ++ [byteLabel s "MSPv2"] }

/-- The spec's own choices where the source is silent: `START.OTHER` does nothing (D8), `HX.INVALID`
labels the byte `INVALID` and goes on (D9). Also the spec's own: a one-byte label spans its byte (R83, D16). -/
def Obligations.UnrecognisedVersionAndV2Type : Prop :=
  ∀ s : State,
    exec .startOther s = .next s ∧
      exec .hxInvalid s =
        .next
          { s with
            frame := { s.frame with state := .v2Flags }
            out := s.out ++ [byteLabel s "INVALID"] }

/-- `ILLEGAL` resets the frame and emits nothing, whatever selector it stands for (D7). That the timing
registers survive it is the spec's choice D4. Also the spec's own: the reset values but `IDLE` and the
checksums' 0 (D5). -/
def Obligations.IllegalSelectorResetsTheFrame : Prop :=
  ∀ (d : DecoderTag) (p : ParserState) (s : State),
    exec (.illegal d p) s = .next { s with frame := Frame.reset }

/-! ## What each operation does: MSP v1 -/

/-- `HM.FLAGSVAR`, `HM.KNOWN` and `HM.INVALID` (R140, R141, R142): one label, one next state, nothing
else, each chosen exactly on its selector and condition (the last under a configuration as R9 requires).
The label of the first two is the registry's string; that for a byte without one, which R9 excludes, it
is some string is the model's choice (log entry 8). That one byte is the flags-bearing variant is the
spec's reading (D34). Also the spec's own: a one-byte label spans its byte (R83, D16). -/
def Obligations.HeaderMLabelsTheTransportType : Prop :=
  ∀ s : State,
    (chooses s .hmFlagsvar ↔
        cursorAt s .v1 .headerM ∧ s.cfg.ttFlagsVariant = some s.cur.value) ∧
      (chooses s .hmKnown ↔
        cursorAt s .v1 .headerM ∧ lookupTransportType s.cfg s.cur.value ≠ none ∧
          s.cfg.ttFlagsVariant ≠ some s.cur.value) ∧
      (Cfg.wf s.cfg = true →
        (chooses s .hmInvalid ↔
          cursorAt s .v1 .headerM ∧ lookupTransportType s.cfg s.cur.value = none)) ∧
      (∃ t,
        exec .hmFlagsvar s =
            .next
              { s with
                frame := { s.frame with state := .v1Flags }
                out := s.out ++ [byteLabel s t] } ∧
          ∀ name, lookupTransportType s.cfg s.cur.value = some name → t = name) ∧
      (∃ t,
        exec .hmKnown s =
            .next
              { s with
                frame := { s.frame with state := .v1PayloadSize }
                out := s.out ++ [byteLabel s t] } ∧
          ∀ name, lookupTransportType s.cfg s.cur.value = some name → t = name) ∧
      exec .hmInvalid s =
        .next
          { s with
            frame := { s.frame with state := .v1PayloadSize }
            out := s.out ++ [byteLabel s "INVALID"] }

/-- `V1.FLAGS` (R143): labelled, neither stored nor folded. `V1.SIZE` (R144): the buffer and the count
are cleared, the length is stored and folded; a checksum of 0 becomes the length. Also the spec's own: a
one-byte label spans its byte (R83, D16). -/
def Obligations.V1FlagsAndLength : Prop :=
  ∀ s : State,
    (chooses s .v1Flags ↔ cursorAt s .v1 .v1Flags) ∧
      (chooses s .v1Size ↔ cursorAt s .v1 .v1PayloadSize) ∧
      exec .v1Flags s =
        .next
          { s with
            frame := { s.frame with state := .v1PayloadSize }
            out := s.out ++ [byteLabel s "Flags"] } ∧
      exec .v1Size s =
        .next
          { s with
            frame :=
              { s.frame with
                state := .v1PayloadFunc
                payloadBuffer := []
                v1 :=
                  { s.frame.v1 with expectedLen := s.cur.value.toNat, receivedCount := 0 }
                crc1 := s.frame.crc1 ^^^ s.cur.value }
            out := s.out ++ [byteLabel s "Length"] } ∧
      (0#8 : Byte) ^^^ s.cur.value = s.cur.value

/-- `V1.FUNC.PAYLOAD` (R145) and `V1.FUNC.ENCAP` (R147): the id is folded and stored, its v1 name is
emitted, and the next state is `V1_PAYLOAD` or, still under the v1 decoder, `V2_FLAGS`. That the second
is chosen only on a length above 0 is the spec's own choice (D12). Also the spec's own: a one-byte label
spans its byte (R83, D16). -/
def Obligations.V1FunctionByte : Prop :=
  ∀ s : State,
    let after (p : ParserState) : State :=
      { s with
        frame :=
          { s.frame with
            state := p
            v1 := { s.frame.v1 with funcId := s.cur.value }
            crc1 := s.frame.crc1 ^^^ s.cur.value }
        out :=
          s.out ++ [byteLabel s ("Func: " ++ nameForFunction s.cfg .v1 s.cur.value.toNat)] }
    (chooses s .v1FuncPayload ↔
        cursorAt s .v1 .v1PayloadFunc ∧ 0 < s.frame.v1.expectedLen ∧
          s.cur.value ≠ s.cfg.funcV2Frame) ∧
      (chooses s .v1FuncEncap ↔
        cursorAt s .v1 .v1PayloadFunc ∧ 0 < s.frame.v1.expectedLen ∧
          s.cur.value = s.cfg.funcV2Frame) ∧
      exec .v1FuncPayload s = .next (after .v1Payload) ∧
      exec .v1FuncEncap s = .next (after .v2Flags)

/-- `V1.FUNC.EMPTY` (R146), which is chosen on length 0 even for the encapsulation id (the spec's
choice, D12): as the other function operations, with the next state `V1_CHECKSUM` and no payload label.
Also the spec's own: a one-byte label spans its byte (R83, D16). -/
def Obligations.V1FunctionByteOfAnEmptyFrame : Prop :=
  ∀ s : State,
    (chooses s .v1FuncEmpty ↔ cursorAt s .v1 .v1PayloadFunc ∧ s.frame.v1.expectedLen = 0) ∧
      exec .v1FuncEmpty s =
        .next
          { s with
            frame :=
              { s.frame with
                state := .v1Checksum
                v1 := { s.frame.v1 with funcId := s.cur.value }
                crc1 := s.frame.crc1 ^^^ s.cur.value }
            out :=
              s.out ++
                [byteLabel s ("Func: " ++ nameForFunction s.cfg .v1 s.cur.value.toNat)] }

/-- `V1.PAYLOAD.MORE` (R148): the byte is appended, folded and counted; no label, the state stays. Chosen,
where the count is below the length (R41), exactly on its selector and condition. -/
def Obligations.V1PayloadByteInTheMiddle : Prop :=
  ∀ s : State,
    (s.frame.v1.receivedCount < s.frame.v1.expectedLen →
        (chooses s .v1PayloadMore ↔
          cursorAt s .v1 .v1Payload ∧ s.frame.v1.receivedCount + 1 < s.frame.v1.expectedLen)) ∧
      exec .v1PayloadMore s =
      .next
        { s with
          frame :=
            { s.frame with
              payloadBuffer := s.frame.payloadBuffer ++ [s.cur]
              v1 := { s.frame.v1 with receivedCount := s.frame.v1.receivedCount + 1 }
              crc1 := s.frame.crc1 ^^^ s.cur.value } }

/-- `V1.PAYLOAD.LAST` (R149): as above, then the labels of the field decoder over the buffer with the
byte just appended, and the state `V1_CHECKSUM`. -/
def Obligations.V1PayloadByteAtTheEnd : Prop :=
  ∀ s : State,
    (chooses s .v1PayloadLast ↔
        cursorAt s .v1 .v1Payload ∧ s.frame.v1.receivedCount + 1 = s.frame.v1.expectedLen) ∧
      exec .v1PayloadLast s =
      .next
        { s with
          frame :=
            { s.frame with
              state := .v1Checksum
              payloadBuffer := s.frame.payloadBuffer ++ [s.cur]
              v1 := { s.frame.v1 with receivedCount := s.frame.v1.receivedCount + 1 }
              crc1 := s.frame.crc1 ^^^ s.cur.value }
          out :=
            s.out ++
              decodeFields (fieldLayout s.cfg s.frame.v1.funcId.toNat)
                (s.frame.payloadBuffer ++ [s.cur]) }

/-- `V1.CHECKSUM.OK` (R150) and `V1.CHECKSUM.ERR` (R151): one label, then frame reset; the labels
emitted before stand and the timing state survives. That the timing registers survive the frame reset
(R124) is the spec's own choice (D4). Also the spec's own: the reset values but `IDLE` and the
checksums' 0 (D5); a one-byte label spans its byte (R83, D16). -/
def Obligations.V1ChecksumByte : Prop :=
  ∀ s : State,
    (chooses s .v1ChecksumOk ↔ cursorAt s .v1 .v1Checksum ∧ s.cur.value = s.frame.crc1) ∧
      (chooses s .v1ChecksumErr ↔ cursorAt s .v1 .v1Checksum ∧ s.cur.value ≠ s.frame.crc1) ∧
      exec .v1ChecksumOk s =
        .next { s with frame := Frame.reset, out := s.out ++ [byteLabel s "CRC"] } ∧
      exec .v1ChecksumErr s =
        .next { s with frame := Frame.reset, out := s.out ++ [byteLabel s "CRC ERROR"] }

/-! ## What each operation does: MSP v2 -/

/-- `HX.KNOWN` (R160): the registry's string, then `V2_FLAGS`; that for a byte without a name it is some
string is the model's choice (log entry 8). Also the spec's own: a one-byte label spans its byte (R83, D16). -/
def Obligations.HeaderXLabelsTheTransportType : Prop :=
  ∀ s : State,
    (chooses s .hxKnown ↔
        cursorAt s .v2 .headerX ∧ lookupTransportType s.cfg s.cur.value ≠ none) ∧
      ∃ t,
        exec .hxKnown s =
            .next
              { s with
                frame := { s.frame with state := .v2Flags }
                out := s.out ++ [byteLabel s t] } ∧
          ∀ name, lookupTransportType s.cfg s.cur.value = some name → t = name

/-- `V2.FLAGS` (R162) restarts the checksum at 0 and folds; `V2.FUNC1` (R163) and `V2.SIZE1` (R165) fold
and store the high byte with its start time, and emit nothing. Also the spec's own: a one-byte label
spans its byte (R83, D16). -/
def Obligations.V2FlagsAndHighBytes : Prop :=
  ∀ s : State,
    (chooses s .v2Flags ↔ cursorAt s .v2 .v2Flags) ∧
      (chooses s .v2Func1 ↔ cursorAt s .v2 .v2Func1) ∧
      (chooses s .v2Size1 ↔ cursorAt s .v2 .v2Size1) ∧
      exec .v2Flags s =
        .next
          { s with
            frame :=
              { s.frame with state := .v2Func1, crc2 := crc8 s.cfg.poly 0#8 s.cur.value }
            out := s.out ++ [byteLabel s "Flags"] } ∧
      exec .v2Func1 s =
        .next
          { s with
            frame :=
              { s.frame with
                state := .v2Func2
                crc2 := crc8 s.cfg.poly s.frame.crc2 s.cur.value
                v2 :=
                  { s.frame.v2 with
                    funcAcc := s.cur.value.setWidth 16 <<< 8
                    funcStart := s.cur.startTime } } } ∧
      exec .v2Size1 s =
        .next
          { s with
            frame :=
              { s.frame with
                state := .v2Size2
                crc2 := crc8 s.cfg.poly s.frame.crc2 s.cur.value
                v2 :=
                  { s.frame.v2 with
                    lenAcc := s.cur.value.setWidth 16 <<< 8
                    lenStart := s.cur.startTime } } }

/-- `V2.SIZE2.PAYLOAD` (R166) and `V2.SIZE2.EMPTY` (R167): the length is completed, the buffer and the
count are cleared, and one label spans both length bytes. On length 0 the number printed is 0. That the
number is printed in decimal is the spec's own choice (D17, in R13). -/
def Obligations.V2LengthIsCompleted : Prop :=
  ∀ s : State,
    let n : Half := s.frame.v2.lenAcc ||| s.cur.value.setWidth 16
    let after (p : ParserState) (expected : Nat) (text : String) : State :=
      { s with
        frame :=
          { s.frame with
            state := p
            payloadBuffer := []
            crc2 := crc8 s.cfg.poly s.frame.crc2 s.cur.value
            v2 :=
              { s.frame.v2 with lenAcc := n, expectedLen := expected, receivedCount := 0 } }
        out :=
          s.out ++
            [{ startTime := s.frame.v2.lenStart, endTime := s.cur.endTime, kind := .info
               text := text }] }
    (chooses s .v2Size2Payload ↔ cursorAt s .v2 .v2Size2 ∧ 0 < n.toNat) ∧
      (chooses s .v2Size2Empty ↔ cursorAt s .v2 .v2Size2 ∧ n.toNat = 0) ∧
      exec .v2Size2Payload s = .next (after .v2Payload n.toNat ("Length " ++ Nat.repr n.toNat)) ∧
      exec .v2Size2Empty s = .next (after .v2Checksum 0 "Length 0")

/-- `V2.FUNC2` (R164; the text carries `Func: `, D10) labels both id bytes with the v2 name, and
`V2.PAYLOAD.MORE` and `V2.PAYLOAD.LAST` (R168, R169; the index is the 0-based position, D36) append,
fold, label and count one byte. Also the spec's own: a one-byte label spans its byte (R83, D16);
numbers in decimal (R13, D17). -/
def Obligations.V2FunctionNameAndPayloadBytes : Prop :=
  ∀ s : State,
    let id : Half := s.frame.v2.funcAcc ||| s.cur.value.setWidth 16
    let payload (p : ParserState) : State :=
      { s with
        frame :=
          { s.frame with
            state := p
            payloadBuffer := s.frame.payloadBuffer ++ [s.cur]
            crc2 := crc8 s.cfg.poly s.frame.crc2 s.cur.value
            v2 := { s.frame.v2 with receivedCount := s.frame.v2.receivedCount + 1 } }
        out :=
          s.out ++ [byteLabel s ("data[" ++ Nat.repr s.frame.v2.receivedCount ++ "]")] }
    exec .v2Func2 s =
        .next
          { s with
            frame :=
              { s.frame with
                state := .v2Size1
                crc2 := crc8 s.cfg.poly s.frame.crc2 s.cur.value
                v2 := { s.frame.v2 with funcAcc := id } }
            out :=
              s.out ++
                [{ startTime := s.frame.v2.funcStart, endTime := s.cur.endTime, kind := .info
                   text := "Func: " ++ nameForFunction s.cfg .v2 id.toNat }] } ∧
      exec .v2PayloadMore s = .next (payload s.frame.state) ∧
      exec .v2PayloadLast s = .next (payload .v2Checksum)

/-- `V2.CHECKSUM.OK` (R170) and `V2.CHECKSUM.ERR` (R171): one label, then frame reset. That the timing
registers survive the frame reset (R124) is the spec's own choice (D4). Also the spec's own: the reset
values but `IDLE` and the checksums' 0 (D5); a one-byte label spans its byte (R83, D16). -/
def Obligations.V2ChecksumByte : Prop :=
  ∀ s : State,
    (chooses s .v2ChecksumOk ↔ cursorAt s .v2 .v2Checksum ∧ s.cur.value = s.frame.crc2) ∧
      (chooses s .v2ChecksumErr ↔ cursorAt s .v2 .v2Checksum ∧ s.cur.value ≠ s.frame.crc2) ∧
      exec .v2ChecksumOk s =
        .next { s with frame := Frame.reset, out := s.out ++ [byteLabel s "CRC"] } ∧
      exec .v2ChecksumErr s =
        .next { s with frame := Frame.reset, out := s.out ++ [byteLabel s "CRC ERROR"] }

/-! ## What each operation does: the encapsulated path -/

/-- `E.FLAGS`, `E.FUNC1`, `E.FUNC2` and `E.SIZE1` (R181 to R184): the inner operation on the `v2`
registers and `crc2`, and on the outer side one fold, one count and the next state, for which the outer
count decides first (D13). That these bytes are not appended to the buffer is the spec's choice D14.
That the inner frame has registers of its own is the spec's choice D11. Also the spec's own: the prefix
of the v2 function label (D10); a one-byte label spans its byte (R83, D16). -/
def Obligations.EncapsulatedHeaderBytes : Prop :=
  ∀ s : State,
    let id : Half := s.frame.v2.funcAcc ||| s.cur.value.setWidth 16
    let after (p : ParserState) (crc : Byte) (v2 : V2Regs) (labels : List LabeledField) : State :=
      { s with
        frame :=
          { s.frame with
            state := outerNext s p
            v1 := { s.frame.v1 with receivedCount := s.frame.v1.receivedCount + 1 }
            crc1 := s.frame.crc1 ^^^ s.cur.value
            crc2 := crc
            v2 := v2 }
        out := s.out ++ labels }
    exec .eFlags s =
        .next
          (after .v2Func1 (crc8 s.cfg.poly 0#8 s.cur.value) s.frame.v2 [byteLabel s "Flags"]) ∧
      exec .eFunc1 s =
        .next
          (after .v2Func2 (crc8 s.cfg.poly s.frame.crc2 s.cur.value)
            { s.frame.v2 with
              funcAcc := s.cur.value.setWidth 16 <<< 8
              funcStart := s.cur.startTime }
            []) ∧
      exec .eFunc2 s =
        .next
          (after .v2Size1 (crc8 s.cfg.poly s.frame.crc2 s.cur.value)
            { s.frame.v2 with funcAcc := id }
            [{ startTime := s.frame.v2.funcStart, endTime := s.cur.endTime, kind := .info
               text := "Func: " ++ nameForFunction s.cfg .v2 id.toNat }]) ∧
      exec .eSize1 s =
        .next
          (after .v2Size2 (crc8 s.cfg.poly s.frame.crc2 s.cur.value)
            { s.frame.v2 with
              lenAcc := s.cur.value.setWidth 16 <<< 8
              lenStart := s.cur.startTime }
            [])

/-- `E.SIZE2` (R185): the inner length goes into the `v2` counters only; the outer length and count are
touched by the wrapper alone (D11, D13). That the byte itself is not appended is the spec's choice D14.
Also the spec's own: numbers in decimal (R13, D17). -/
def Obligations.EncapsulatedLength : Prop :=
  ∀ s : State,
    let n : Half := s.frame.v2.lenAcc ||| s.cur.value.setWidth 16
    exec .eSize2 s =
      .next
        { s with
          frame :=
            { s.frame with
              state := outerNext s (if n = 0#16 then .v2Checksum else .v2Payload)
              payloadBuffer := []
              v1 := { s.frame.v1 with receivedCount := s.frame.v1.receivedCount + 1 }
              crc1 := s.frame.crc1 ^^^ s.cur.value
              crc2 := crc8 s.cfg.poly s.frame.crc2 s.cur.value
              v2 :=
                { s.frame.v2 with lenAcc := n, expectedLen := n.toNat, receivedCount := 0 } }
          out :=
            s.out ++
              [{ startTime := s.frame.v2.lenStart, endTime := s.cur.endTime, kind := .info
                 text := "Length " ++ Nat.repr n.toNat }] }

/-- `E.PAYLOAD` (R186): one append to the shared buffer (D14), both folds, both counts, one label. That
the inner frame has counters of its own is the spec's choice D11; that the outer count decides first,
D13. Also the spec's own: a one-byte label spans its byte (R83, D16); numbers in decimal (R13, D17);
the 0-based index (D36). -/
def Obligations.EncapsulatedPayloadByte : Prop :=
  ∀ s : State,
    exec .ePayload s =
      .next
        { s with
          frame :=
            { s.frame with
              state :=
                outerNext s
                  (if s.frame.v2.receivedCount + 1 = s.frame.v2.expectedLen then .v2Checksum
                  else .v2Payload)
              payloadBuffer := s.frame.payloadBuffer ++ [s.cur]
              v1 := { s.frame.v1 with receivedCount := s.frame.v1.receivedCount + 1 }
              crc1 := s.frame.crc1 ^^^ s.cur.value
              crc2 := crc8 s.cfg.poly s.frame.crc2 s.cur.value
              v2 := { s.frame.v2 with receivedCount := s.frame.v2.receivedCount + 1 } }
          out :=
            s.out ++ [byteLabel s ("data[" ++ Nat.repr s.frame.v2.receivedCount ++ "]")] }

/-- `E.CHECKSUM` (R187): the byte is folded into `crc1` and compared with `crc2` (D15); no frame reset;
the inner frame is over whether or not it matched (D37). That the byte is not appended to the buffer is
the spec's choice D14; that the outer count decides first, D13. That the inner frame has registers of
its own is the spec's choice D11. Also the spec's own: a one-byte label spans its byte (R83, D16). -/
def Obligations.EncapsulatedChecksumByte : Prop :=
  ∀ s : State,
    exec .eChecksum s =
      .next
        { s with
          frame :=
            { s.frame with
              state := outerNext s .v1Payload
              v1 := { s.frame.v1 with receivedCount := s.frame.v1.receivedCount + 1 }
              crc1 := s.frame.crc1 ^^^ s.cur.value }
          out :=
            s.out ++
              [byteLabel s (if s.cur.value = s.frame.crc2 then "CRC" else "CRC ERROR")] }

/-! ## The sub-functions as rows of the table (log entry 6: the ports are the model's) -/

/-- `XOR8` and `CRC8` executed by themselves give the engine's result in the port and change nothing
else. The model's own: the sub-functions' ports (log entry 6). -/
def Obligations.EngineRowsAnswerInTheirPort : Prop :=
  ∀ (c v : Byte) (s : State),
    exec (.xor8 c v) s = .next { s with fnResult := c ^^^ v } ∧
      exec (.crc8 c v) s = .next { s with fnResult := crc8 s.cfg.poly c v }

/-- `FD.RUN`, `FD.OPAQUE`, `FD.FIXEDW` and `FD.REST` executed by themselves: the labels of the buffer,
or the entries consumed at the port's cursor with their big-endian value. A width that is not positive,
on which `FD.FIXEDW` is never chosen, consumes some number of the bytes left (log entry 10). That a
cursor past the end, where the difference of R204 and R207 is not defined, has no bytes left is the
model's choice (log entry 21). The spec's own choices it rests on: a width above what is left takes what
is left (D18), nothing is removed from the buffer (D14), the value is of any size and is taken for a
negative width too (D31, D19), and an empty buffer has no labels (D29). Also the spec's own: numbers in
decimal (R13, D17); text on a positive width is a number (D20); `ERROR` past the end of a list (D21);
the characters of the bytes (D22). The model's own: the sub-functions' ports (log entry 6). -/
def Obligations.FieldRowsReadTheBuffer : Prop :=
  ∀ s : State,
    let buf := s.frame.payloadBuffer
    let left := buf.length - s.field.pos
    let took (n : Nat) : State :=
      { s with
        field :=
          { s.field with
            pos := s.field.pos + n
            chunk := (buf.drop s.field.pos).take n
            value := bigEndian ((buf.drop s.field.pos).take n) } }
    exec .fdRun s =
        .next
          { s with
            field :=
              { s.field with
                labels := decodeFields (fieldLayout s.cfg s.frame.v1.funcId.toNat) buf } } ∧
      exec .fdOpaque s =
        .next { s with field := { s.field with labels := decodeFields none buf } } ∧
      exec .fdRest s = .next (took left) ∧
      ∃ n,
        exec .fdFixedw s = .next (took n) ∧
          n ≤ left ∧ (0 < s.field.desc.width → n = min s.field.desc.width.toNat left)

/-- The interpretation rows executed by themselves write the text to the port and change nothing else.
On a descriptor of another kind the text is some string (log entry 9). The spec's own choices it rests
on: the characters of the bytes (D22), the decimal spelling (D17), and `ERROR` for an index past the end
(D21). The model's own: the sub-functions' ports (log entry 6). -/
def Obligations.InterpretationRowsWriteTheText : Prop :=
  ∀ s : State,
    let said (t : String) : State := { s with field := { s.field with text := t } }
    exec .fdIText s =
        .next (said ("STR: " ++ String.ofList (s.field.chunk.map fun e => chr e.value))) ∧
      exec .fdIRaw s = .next (said (Nat.repr s.field.value)) ∧
      (∃ t,
        exec .fdIFixed s = .next (said t) ∧
          ∀ x, s.field.desc.interp = .fixedLabel x → t = x) ∧
      (∃ t,
        exec .fdIIndex s = .next (said t) ∧
          ∀ l, s.field.desc.interp = .indexLookup l →
            t = if h : s.field.value < l.length then l[s.field.value] else "ERROR") ∧
      ∃ t,
        exec .fdIMap s = .next (said t) ∧
          ∀ m, s.field.desc.interp = .valueLookup m →
            t = (m.lookup s.field.value).getD "ERROR"

/-- `FD.SKIP` (R206): a descriptor of width 0 consumes no bytes and gives no output, whatever its
interpretation and wherever the walk is; the row by itself changes nothing. -/
def Obligations.ZeroWidthIsSkipped : Prop :=
  (∀ s : State, exec .fdSkip s = .next s) ∧
    ∀ (buf : Memory) (interp : Interpretation) (lay : Layout) (pos : Nat),
      walk buf ({ width := 0, interp := interp } :: lay) pos = walk buf lay pos

/-! ## The checksum engines (R100 to R104) -/

/-- The engines as functions (R100, R101): XOR, with its corner cases and its independence of order; and
eight iterations on the XOR of the operands, each a shift, and the polynomial where the top bit was
set, most significant bit first. -/
def Obligations.ChecksumEnginesCompute : Prop :=
  (∀ c v : Byte,
      xor8 c v = c ^^^ v ∧ xor8 c 0#8 = c ∧ xor8 c c = 0#8 ∧ xor8 0#8 v = v) ∧
    (∀ (c : Byte) (l m : List Byte), l.Perm m → l.foldl xor8 c = m.foldl xor8 c) ∧
    ∀ poly c v : Byte,
      crc8 poly c v =
          (fun t : Byte =>
            if t.getLsbD 7 then (((t.setWidth 9) <<< 1) ^^^ (poly.setWidth 9)).setWidth 8
            else ((t.setWidth 9) <<< 1).setWidth 8)^[8] (c ^^^ v) ∧
        crc8 poly c c = 0#8

/-- What a checksum notices (R104): a byte changed in one place always changes the final XOR, and the
final CRC-8 for every odd polynomial; for the polynomial 0 every CRC-8 is 0. -/
def Obligations.OneChangedByteChangesTheChecksum : Prop :=
  (∀ (c x y : Byte) (front back : List Byte),
      x ≠ y → (front ++ x :: back).foldl xor8 c ≠ (front ++ y :: back).foldl xor8 c) ∧
    (∀ (poly c x y : Byte) (front back : List Byte),
      poly.getLsbD 0 = true → x ≠ y →
        (front ++ x :: back).foldl (crc8 poly) c ≠ (front ++ y :: back).foldl (crc8 poly) c) ∧
    ∀ c v : Byte, crc8 0#8 c v = 0#8

/-! ## The field decoder (R200 to R212) -/

/-- `FD.OPAQUE` (R202): no layout gives one label `PAYLOAD` over the whole buffer. -/
def Obligations.OpaquePayloadIsOneLabel : Prop :=
  ∀ (e last : TimestampedByte) (middle : List TimestampedByte),
    decodeFields none (e :: middle ++ [last]) =
        [{ startTime := e.startTime, endTime := last.endTime, kind := .info, text := "PAYLOAD" }] ∧
      decodeFields none [e] =
        [{ startTime := e.startTime, endTime := e.endTime, kind := .info, text := "PAYLOAD" }]

/-- The span of a field (R203), and the order of the labels: the labels are, one for one and in order,
those of the descriptors that consumed bytes, each from the start of the first byte it consumed to the
end of the last. The texts are those of `interpret`, for which the spec's own choices count: decimal
numbers (D17), a short field's bytes (D18), a negative width's value (D19), text on a positive width
(D20), `ERROR` past a list's end (D21), the characters (D22), no label for an empty buffer (D29), an
unbounded value (D31). -/
def Obligations.FieldLabelsSpanTheirBytes : Prop :=
  ∀ (lay : Layout) (buf : Memory),
    List.Forall₂
      (fun (f : FieldDesc × List TimestampedByte) (l : LabeledField) =>
        ∃ first last,
          f.2.head? = some first ∧
            f.2.getLast? = some last ∧
              l =
                { startTime := first.startTime, endTime := last.endTime, kind := .info
                  text := interpret f.1.width f.1.interp f.2 (bigEndian f.2) })
      (walk buf lay 0) (decodeFields (some lay) buf)

/-- The walk (R200, R58): the bytes consumed are a prefix of the buffer, each entry at most once and in
order; the descriptors that consumed them keep the layout's order, none has width 0, each consumes at
least one byte; and what is left over is empty or the layout is exhausted. The spec's own choices it
rests on: a short field takes what is left (D18), and an empty buffer gives nothing (D29). -/
def Obligations.WalkReadsEachEntryAtMostOnce : Prop :=
  ∀ (lay : Layout) (buf : Memory),
    ((walk buf lay 0).flatMap fun f => f.2) <+: buf ∧
      ((walk buf lay 0).map fun f => f.1).Sublist lay ∧
      (∀ f ∈ walk buf lay 0, f.1.width ≠ 0 ∧ f.2 ≠ []) ∧
      (((walk buf lay 0).flatMap fun f => f.2) = buf ∨
        ((walk buf lay 0).map fun f => f.1) = lay.filter fun d => decide (d.width ≠ 0))

/-- How much a descriptor consumes (R200, R204, R205, R207): a positive width its bytes or, short, what
is left (D18); a negative width all that is left. Other choices of the spec it rests on: a negative
width takes all whatever the interpretation (D19), and an empty buffer gives nothing (D29). -/
def Obligations.WalkConsumesByWidth : Prop :=
  ∀ (buf : Memory) (d : FieldDesc) (lay : Layout) (pos : Nat),
    walk buf (d :: lay) pos =
      if buf.length ≤ pos then []
      else if d.width = 0 then walk buf lay pos
      else
        let n :=
          if d.width < 0 then buf.length - pos else min d.width.toNat (buf.length - pos)
        (d, (buf.drop pos).take n) :: walk buf lay (pos + n)

/-- A field is assembled big-endian (R57, R204): the byte at the lowest index is the most significant, and
a field of a positive width that the buffer still holds is exactly its bytes. That the value is unsigned
and nothing of it is cut off, whatever the number of bytes, is the spec's own choice (D31, in R204). -/
def Obligations.FieldValueIsBigEndian : Prop :=
  (∀ (buf : Memory) (d : FieldDesc) (lay : Layout) (pos : Nat),
      0 < d.width → pos + d.width.toNat ≤ buf.length →
        ∃ chunk fields,
          walk buf (d :: lay) pos = (d, chunk) :: fields ∧
            chunk.length = d.width.toNat ∧ ∀ k < chunk.length, chunk[k]? = buf[pos + k]?) ∧
  bigEndian [] = 0 ∧
    ∀ (e : TimestampedByte) (chunk : List TimestampedByte),
      bigEndian (e :: chunk) = e.value.toNat * 256 ^ chunk.length + bigEndian chunk ∧
        bigEndian chunk < 256 ^ chunk.length

/-- `FD.I.FIXED` (R209) and `FD.I.MAP` (R211): the fixed string whatever the bytes, and the map's entry or
`ERROR`. -/
def Obligations.FixedAndMappedText : Prop :=
  ∀ (w : Int) (chunk : List TimestampedByte) (value : Nat),
    (∀ t, interpret w (.fixedLabel t) chunk value = t) ∧
      ∀ m : List (Nat × String),
        (∀ t, m.lookup value = some t → interpret w (.valueLookup m) chunk value = t) ∧
          (m.lookup value = none → interpret w (.valueLookup m) chunk value = "ERROR")

/-- The other interpretations: raw integers in decimal (R212, D17); text on a negative width as the
characters of the bytes (R208, D22) and on a positive width as a raw integer (D20), and also on width 0,
which no rule gives a text and no walk reaches (the model's choice, log entry 22); a list entry or, past
the end, `ERROR` (R210, D21). -/
def Obligations.RawTextAndIndexedText : Prop :=
  ∀ (w : Int) (chunk : List TimestampedByte) (value : Nat),
    interpret w .rawInteger chunk value = Nat.repr value ∧
      interpret w .text chunk value =
        (if w < 0 then "STR: " ++ String.ofList (chunk.map fun e => Char.ofNat e.value.toNat)
        else Nat.repr value) ∧
      ∀ l : List String,
        interpret w (.indexLookup l) chunk value =
          if h : value < l.length then l[value] else "ERROR"

/-- The two-byte fields of a v2 frame are big-endian (R56): the first byte received is the more
significant, through the operations that assemble the function id and the length, in a standalone and in
an encapsulated frame. Also the spec's own: registers of its own for the inner frame (D11). -/
def Obligations.TwoByteFieldsAreBigEndian : Prop :=
  ∀ (s t : State) (b : TimestampedByte),
    (exec .v2Func1 s = .next t →
        ∃ u,
          exec .v2Func2 { t with cur := b } = .next u ∧
            u.frame.v2.funcAcc.toNat = 256 * s.cur.value.toNat + b.value.toNat) ∧
      (exec .v2Size1 s = .next t →
        ∃ u,
          exec .v2Size2Payload { t with cur := b } = .next u ∧
            u.frame.v2.lenAcc.toNat = 256 * s.cur.value.toNat + b.value.toNat ∧
            u.frame.v2.expectedLen = 256 * s.cur.value.toNat + b.value.toNat) ∧
      (exec .eFunc1 s = .next t →
        ∃ u,
          exec .eFunc2 { t with cur := b } = .next u ∧
            u.frame.v2.funcAcc.toNat = 256 * s.cur.value.toNat + b.value.toNat) ∧
      (exec .eSize1 s = .next t →
        ∃ u,
          exec .eSize2 { t with cur := b } = .next u ∧
            u.frame.v2.lenAcc.toNat = 256 * s.cur.value.toNat + b.value.toNat ∧
            u.frame.v2.expectedLen = 256 * s.cur.value.toNat + b.value.toNat)

/-! ## The step (R120) -/

/-- A step runs the operation that the operation word decodes to (R79, R120), on the byte delivered,
after the pre-step; then the time is kept and the step's labels join the stream. From an illegal cursor
the decoded operation is `ILLEGAL`, and the one that IDLE chooses runs after it (D7). The codes of the
selector are the spec's choice (D6), the word's high byte the model's (log entry 4). Also the spec's
own: the exact comparison in ticks (D1); the strict bound of the window (D2); no idle check on the first
byte, which calibrates (D3); the timing registers survive a frame reset (D4); `monus` for durations
(D35). The model's own: the ports of the transaction (log entry 1). -/
def Obligations.StepRunsTheDecodedOperation : Prop :=
  ∀ (s t : State) (b : TimestampedByte) (rest : List HostInput) (i : Instr),
    s.input = .byte b :: rest →
      let u := prepared b rest s
      let closed : State :=
        { t with
          timing := { t.timing with lastByteTime := t.cur.endTime }
          stream := t.stream ++ t.out }
      (legalPair u.frame.decoder u.frame.state = true →
          decode (operationWord u) = .ok (i, []) → exec i u = .next t → step s = .next closed) ∧
        (legalPair u.frame.decoder u.frame.state = false →
          decode (operationWord u) = .ok (.illegal u.frame.decoder u.frame.state, []) ∧
            (decode (operationWord { u with frame := Frame.reset }) = .ok (i, []) →
              exec i { u with frame := Frame.reset } = .next t → step s = .next closed))

/-- Without a byte nothing happens (R229); hardware reset (R240, D24) puts the whole Session into its
reset state, emits nothing and keeps the configuration (log entry 1). Also the spec's own: the reset
values but `IDLE` and the checksums' 0 (D5). -/
def Obligations.StepWithoutAByte : Prop :=
  (∀ s : State, s.input = [] → step s = .next s) ∧
    ∀ (s : State) (rest : List HostInput),
      s.input = .reset :: rest →
        step s =
          .next
            { s with
              frame := Frame.reset
              timing := { lastByteTime := 0, calDuration := 0, calibrated := false }
              input := rest
              out := [] }

/-- The reset values (R46; but for `IDLE` and the checksums' 0 they are the spec's choice, D5), under
every configuration, and the Session invariant holds there. The model's own: the blank configuration
(log entry 2). -/
def Obligations.ResetValuesMeetTheSessionLaws : Prop :=
  ∀ c : Cfg,
    let s := State.ofCfg c
    (s.frame.state = .idle ∧ s.frame.decoder = .none ∧ s.frame.payloadBuffer = [] ∧
        s.frame.v1 = { expectedLen := 0, receivedCount := 0, funcId := 0#8 } ∧
        s.frame.v2 =
          { expectedLen := 0, receivedCount := 0, funcAcc := 0#16, funcStart := 0
            lenAcc := 0#16, lenStart := 0 } ∧
        s.frame.crc1 = 0#8 ∧ s.frame.crc2 = 0#8) ∧
      s.timing = { lastByteTime := 0, calDuration := 0, calibrated := false } ∧
      s.cfg = c ∧ SessionInv s ∧ State.reset = State.ofCfg Cfg.blank

/-- Every step keeps the Session invariant: the legal cursor (R24), the counters' bounds and widths
(R41, R26, R29), the rest state (R42) and the buffer's bound (R52). The reset values (D5), the
precedence of the outer count (D13), the buffer's capacity (D26) and the whole frame reset at
`IDLE.START` (D30), which it speaks of, are the spec's choices. Also the spec's own: no idle check on
the first byte, which calibrates (D3); registers of its own for the inner frame (D11); length 0 goes
before the encapsulation id (D12); of the encapsulated bytes only the inner payload is appended, and
nothing is removed (D14). -/
def Obligations.SessionLawsSurviveEveryStep : Prop :=
  ∀ s t : State, SessionInv s → step s = .next t → SessionInv t

/-- The buffer's capacity (R52) follows from the invariant: at most 65535 entries, and at most 255 in a
v1 frame, plain or encapsulating. The capacity is the spec's choice (D26). -/
def Obligations.BufferNeverOverflows : Prop :=
  ∀ s : State,
    SessionInv s →
      Memory.wf s.frame.payloadBuffer = true ∧
        (s.frame.decoder = .v1 → s.frame.payloadBuffer.length ≤ 255)

/-- No step stops, and no operation does (R7, R220): from every state, in or out of its condition. That
no trap exists and that a condition has no stored code are the spec's choices (D28, D33). Also the
spec's own: the reset from an illegal cursor (D7). -/
def Obligations.NothingEverStops : Prop :=
  (∀ (i : Instr) (s : State), ∃ t, exec i s = .next t) ∧ ∀ s : State, ∃ t, step s = .next t

/-! ## The operation map (R79 to R81) -/

/-- The operation word of a state decodes to exactly the operation whose row R81 gives for the cursor
and the condition, under a configuration as R9 requires. A row without a selector is chosen by none. The
codes (D6), the flags-bearing variant as one byte (D34), `V1.FUNC.EMPTY` on length 0 whatever the id
(D12) and `ILLEGAL` (D7) are the spec's choices; the word's high byte is the model's (log entry 4). Also
the spec's own: a byte that is no version tag is ignored (D8); `INVALID` in `HEADER_X` (D9). -/
def Obligations.OperationMapChoosesTheRow : Prop :=
  ∀ (s : State) (i : Instr), Cfg.wf s.cfg = true → (chooses s i ↔ rowCondition i s)

/-- The next cursor of every operation with a selector is the one R81 gives for its row. R81 refers the
encapsulated operations to R180, where that the outer count decides first (D13) and that the inner frame
is over also on a mismatch (D37) are the spec's choices; and for `ILLEGAL`, whose row gives the cursor
as `IDLE.*` after `FrameReset()`, this says the cursor between the two, (`NONE`, `IDLE`) (D7, log entry
11). So are `START.OTHER` (D8), `HX.INVALID` (D9) and `V1.FUNC.EMPTY` (D12) the spec's choices. The rows
without a selector, the pre-step's among them, name no cursor and are not in it. -/
def Obligations.OperationMapNamesTheNextCursor : Prop :=
  ∀ (s t : State) (i : Instr),
    rowCondition i s → exec i s = .next t →
      rowNext i s = some (t.frame.decoder, t.frame.state)

/-- Decode and encode agree on every well-formed operation, whatever follows its words. The codes of the
selector are the spec's choice (D6); the high byte, the operand bytes and what is not examined are the
model's (log entry 4). -/
def Obligations.DecodeInvertsEncode : Prop :=
  ∀ (i : Instr) (rest : List Byte), i.wf = true → decode (encode i ++ rest) = .ok (i, rest)

/-- Whatever decodes is well formed, and its words are the canonical ones but for the bits the decoder
does not examine: bits 7..6 of the low byte of a word of format `STEP`, the whole low byte of any other.
The codes of the selector are the spec's choice (D6); the high byte and what is not examined are the
model's (log entry 4). -/
def Obligations.EncodeInvertsDecode : Prop :=
  ∀ (lo hi : Byte) (tail rest : List Byte) (i : Instr),
    decode (lo :: hi :: tail) = .ok (i, rest) →
      i.wf = true ∧
        ∃ lo' : Byte,
          encode i ++ rest = lo' :: hi :: tail ∧
            (hi.extractLsb' 4 4 = 0#4 → lo'.extractLsb' 0 6 = lo.extractLsb' 0 6)

/-- A few words, their low byte written out from the selectors of R79 and R81: `0x15` is `V1.SIZE`,
`0x2E` with place 1 is `V2.PAYLOAD.LAST`, `0x1F` is `E.CHECKSUM`, `0x27` is illegal. The high byte
(format and place), the operand bytes of an engine and the refusals are the model's choice (log entry
4). The codes of the selector are the spec's choice (D6). -/
def Obligations.WrittenOutWordsDecode : Prop :=
  decode [0x15#8, 0x00#8] = .ok (.v1Size, []) ∧
    decode [0x2E#8, 0x01#8] = .ok (.v2PayloadLast, []) ∧
    decode [0x1F#8, 0x00#8] = .ok (.eChecksum, []) ∧
    decode [0x27#8, 0x00#8] = .ok (.illegal .v2 .v1Payload, []) ∧
    decode [0x00#8, 0x21#8, 0x5A#8, 0xA5#8] = .ok (.crc8 0x5A#8 0xA5#8, []) ∧
    decode [0x15#8, 0x40#8] = .error .reservedFormat ∧
    decode [0x15#8, 0x01#8] = .error .noSuchRow ∧ decode [0x15#8] = .error .truncated

/-! ## Frames and whole-machine rules -/

/-- Which operation writes which register (R48, R121): every register that an operation's row does not
list holds its value. It rests on these choices of the spec: a frame reset leaves the timing registers
(D4), `ILLEGAL` resets the frame (D7), `START.OTHER` writes nothing (D8), the inner frame has registers
of its own (D11), only `E.PAYLOAD` of the encapsulated operations appends (D14), `E.CHECKSUM` does not
fold into `crc2` (D15), and `IDLE.START` resets the whole frame (D30). Also the spec's own: `INVALID` in
`HEADER_X` (D9). The model's own: the ports of the transaction (log entry 1); the sub-functions' ports
(log entry 6). -/
def Obligations.RegistersChangeOnlyWhereListed : Prop :=
  ∀ (i : Instr) (s t : State) (r : Register),
    exec i s = .next t → r ∉ writes i → sameRegister r s t

/-- The payload buffer (R51, R53): exactly five operations append, each the current byte at index `len`,
and leave every other index alone; the listed ones empty it; no other operation changes it. The spec's
own choices it rests on: the exact and strict bound of `TIMEOUT` (D1, D2), the resets (R124) of
`ILLEGAL` (D7, R131) and of `IDLE.START` (D30), that of the encapsulated operations only `E.PAYLOAD`
appends (D14), and that the field decoder removes nothing (D14). -/
def Obligations.BufferIsWrittenAtItsEndOnly : Prop :=
  ∀ (i : Instr) (s t : State),
    exec i s = .next t →
      let buf := s.frame.payloadBuffer
      let buf' := t.frame.payloadBuffer
      (appends i = true →
          buf'.length = buf.length + 1 ∧
            ∀ a, entryAt buf' a = if a = buf.length then some s.cur else entryAt buf a) ∧
        (clears i = true → buf' = []) ∧
        (i = .timeout → buf' = if idleExceeded s then [] else buf) ∧
        (appends i = false → clears i = false → i ≠ .timeout → ∀ a, entryAt buf' a = entryAt buf a)

/-- The timing registers (R36 to R38): after a byte's step `lastByteTime` is that byte's end (D4), and
the calibration is the first byte's duration for ever (D3, D35). Times are naturals by the spec's choice
D1. -/
def Obligations.CalibrationHappensOnce : Prop :=
  ∀ (s t : State) (b : TimestampedByte) (rest : List HostInput),
    s.input = .byte b :: rest → step s = .next t →
      t.timing =
        { lastByteTime := b.endTime
          calDuration :=
            if s.timing.calibrated then s.timing.calDuration else b.endTime - b.startTime
          calibrated := true }

/-- No step changes the configuration (R39, R65), and none touches the ports of the sub-functions (log
entry 6). The spec's choices it rests on: a constant configuration (D25) and no control register (D28).
-/
def Obligations.ConfigurationIsConstant : Prop :=
  ∀ s t : State,
    step s = .next t → t.cfg = s.cfg ∧ t.fnResult = s.fnResult ∧ t.field = s.field

/-- A byte after a gap above the window (R120, R123, R226) is handled in `IDLE` whatever the frame was:
the frame is dropped without a label, and the byte is a start marker or is skipped. The strict bound
(D2), no check on the first byte (D3), the timing registers' survival (D4) and the whole reset at
`IDLE.START` (D30) are the spec's choices. So is the exact comparison in ticks (D1). Also the spec's
own: the reset values but `IDLE` and the checksums' 0 (D5); a one-byte label spans its byte (R83, D16).
The model's own: the ports of the transaction (log entry 1). -/
def Obligations.SilenceAbandonsTheFrame : Prop :=
  ∀ (s : State) (b : TimestampedByte) (rest : List HostInput),
    s.input = .byte b :: rest → withinWindow s b = false →
      ∃ f labels,
        step s =
            .next
              { s with
                frame := f
                timing := { s.timing with lastByteTime := b.endTime }
                cur := b
                input := rest
                out := labels
                stream := s.stream ++ labels } ∧
          (b.value = s.cfg.startMarker →
            f = { Frame.reset with state := .start } ∧
              labels =
                [{ startTime := b.startTime, endTime := b.endTime, kind := .info
                   text := "Start" }]) ∧
          (b.value ≠ s.cfg.startMarker → f = Frame.reset ∧ labels = [])

/-- The start marker is looked for in `IDLE` only (R5, R76, R247; D32): in any other state of a legal
cursor a step under another marker differs in nothing but the marker. The bound of the window and the
first byte's exemption are the spec's choices D2 and D3. So is the exact comparison in ticks (D1). -/
def Obligations.MarkerInsideAFrameIsData : Prop :=
  ∀ (s t : State) (b : TimestampedByte) (rest : List HostInput) (m : Byte),
    s.input = .byte b :: rest →
      legalPair s.frame.decoder s.frame.state = true →
        s.frame.state ≠ .idle → withinWindow s b = true →
          step s = .next t →
            step { s with cfg := { s.cfg with startMarker := m } } =
              .next { t with cfg := { t.cfg with startMarker := m } }

/-- The complete list of frame resets (R242): the named operations put the frame state into its reset
values and leave the timing state; `IDLE.START` then enters `START`; `E.CHECKSUM` does not reset; and no
other operation reaches `IDLE` from another state. The next state of `E.CHECKSUM`, on a mismatch too, is
the spec's own choice (D13 and D37, in R180 and R187). So are that the timing registers survive (D4),
`ILLEGAL` (D7), that `E.CHECKSUM` neither appends the byte (D14) nor folds it into `crc2` (D15), and the
whole reset at `IDLE.START` (D30). So are the exact and strict bound of `TIMEOUT` (D1, D2). Also the
spec's own: the reset values but `IDLE` and the checksums' 0 (D5). -/
def Obligations.FrameResetHappensOnlyWhereListed : Prop :=
  ∀ (i : Instr) (s t : State),
    exec i s = .next t →
      (i = .v1ChecksumOk ∨ i = .v1ChecksumErr ∨ i = .v2ChecksumOk ∨ i = .v2ChecksumErr ∨
          (∃ d p, i = .illegal d p) ∨ (i = .timeout ∧ idleExceeded s = true) →
        t.frame = Frame.reset ∧ t.timing = s.timing) ∧
      (i = .idleStart →
        t.frame = { Frame.reset with state := .start } ∧ t.timing = s.timing) ∧
      (SessionInv s → s.frame.state = .idle → frameReset s = s) ∧
      (i = .timeout → idleExceeded s = false → t = s) ∧
      (i = .eChecksum →
        (t.frame.state = .v1Checksum ∨ t.frame.state = .v1Payload) ∧
          t.frame.decoder = s.frame.decoder ∧ t.frame.payloadBuffer = s.frame.payloadBuffer ∧
          t.frame.v1.expectedLen = s.frame.v1.expectedLen ∧ t.frame.v2 = s.frame.v2) ∧
      (t.frame.state = .idle →
        s.frame.state = .idle ∨ i = .v1ChecksumOk ∨ i = .v1ChecksumErr ∨ i = .v2ChecksumOk ∨
          i = .v2ChecksumErr ∨ (∃ d p, i = .illegal d p) ∨ (i = .timeout ∧ idleExceeded s = true))

/-- In a standalone v2 frame nothing reads the v1 registers or `crc1` (R35, R45): states that agree but
for them stay so, and emit the same labels. From an illegal cursor the frame reset is the spec's choice
D7. That the two variants have registers of their own is the spec's choice D11. -/
def Obligations.StandaloneV2IgnoresTheV1Registers : Prop :=
  ∀ (s s' t : State) (b : TimestampedByte) (rest : List HostInput),
    agreeButV1 s s' → s.frame.decoder = .v2 → s.input = .byte b :: rest → step s = .next t →
      ∃ t', step s' = .next t' ∧ agreeButV1 t t' ∧ t'.out = t.out

/-- In a plain v1 frame nothing reads the v2 registers or `crc2` (R35, R45). That the two variants have
registers of their own is the spec's choice D11. -/
def Obligations.PlainV1IgnoresTheV2Registers : Prop :=
  ∀ (s s' t : State) (b : TimestampedByte) (rest : List HostInput),
    agreeButV2 s s' → s.frame.decoder = .v1 → isV1State s.frame.state = true →
      s.input = .byte b :: rest → step s = .next t →
        ∃ t', step s' = .next t' ∧ agreeButV2 t t' ∧ t'.out = t.out

/-- The output (R71, R63, R250): a byte's step adds its labels at the end of the stream, and one label
at most unless the field decoder ran; no step takes a label back. The model's own: the ports of the
transaction (log entry 1). -/
def Obligations.LabelsAreNeverRetracted : Prop :=
  (∀ s t : State, step s = .next t → s.stream <+: t.stream) ∧
    ∀ (s t : State) (b : TimestampedByte) (rest : List HostInput),
      s.input = .byte b :: rest → step s = .next t →
        t.stream = s.stream ++ t.out ∧
          (t.out.length ≤ 1 ∨ chooses (prepared b rest s) .v1PayloadLast)

/-- The response to an error condition (R221 to R226, R228) is its label in the same step, or silence;
and an operation signals at most one of the codes 1 to 4 (R230). The spec's own choices it rests on: the
codes and names (D33), silence for a bad version (D8), `INVALID` in `HEADER_X` (D9), the prefix of the
v2 function label (D10), `ERROR` for a list index past the end (D21), and that nothing else happens
(D28). Several offending fields are answered here by some label `ERROR`; that each has its own is
FieldLabelsSpanTheirBytes. Also the spec's own: the inner checksum byte is not folded into `crc2` (D15);
a short field takes what is left (D18); a negative width has a value too (D19); an unbounded field value
(D31). The model's own: the names of conditions (log entry 18). -/
def Obligations.ErrorConditionsAreAnsweredInline : Prop :=
  ∀ (i : Instr) (s t : State),
    exec i s = .next t →
      ((conditionsOf i s).filter fun e => decide (errorCode e ≤ 4)).length ≤ 1 ∧
        ∀ e ∈ conditionsOf i s,
          i ≠ .fdRun → i ≠ .fdIIndex → i ≠ .fdIMap →
            match errorLabel e with
            | some text => ∃ labels, t.out = s.out ++ labels ∧ ∃ l ∈ labels, l.text = text
            | none => t.out = s.out

/-- Placing an operation (log entry 12: the model's convention): for every well-formed operation, the
state `placeOp` makes has one more byte in front of its input. For an operation with a selector, the
very next step chooses it; for the two pre-step operations, it is the pre-step's choice. For `XOR8`,
`CRC8` and the `FD` rows, which no selector chooses, only the byte is claimed. The codes of the selector
are the spec's choice (D6). -/
def Obligations.PlacedOperationRunsNext : Prop :=
  ∀ (i : Instr) (s : State),
    i.wf = true →
      ∃ b,
        (placeOp i s).input = .byte b :: s.input ∧
          (rowNext i s ≠ none → chooses (prepared b s.input (placeOp i s)) i) ∧
          (i = .calibrate ∨ i = .timeout → preOperation (latch b s.input (placeOp i s)) = i)

end
end

