-- ==== Sys2Proof/Laws/State.lean ====
section
/-! SUPPORT. One lemma for each field of the state and each update of it. -/

namespace Sys2Proof.Machine

variable (s : State)

/-! ### setState -/

@[simp] theorem setState_frame (p : ParserState) :
    (setState p s).frame =
      { s.frame with state := p } := rfl
@[simp] theorem setState_timing (p : ParserState) : (setState p s).timing = s.timing := rfl
@[simp] theorem setState_cfg (p : ParserState) : (setState p s).cfg = s.cfg := rfl
@[simp] theorem setState_cur (p : ParserState) : (setState p s).cur = s.cur := rfl
@[simp] theorem setState_input (p : ParserState) : (setState p s).input = s.input := rfl
@[simp] theorem setState_out (p : ParserState) : (setState p s).out = s.out := rfl
@[simp] theorem setState_stream (p : ParserState) : (setState p s).stream = s.stream := rfl
@[simp] theorem setState_fnResult (p : ParserState) : (setState p s).fnResult = s.fnResult := rfl
@[simp] theorem setState_field (p : ParserState) : (setState p s).field = s.field := rfl

/-! ### setDecoder -/

@[simp] theorem setDecoder_frame (d : DecoderTag) :
    (setDecoder d s).frame =
      { s.frame with decoder := d } := rfl
@[simp] theorem setDecoder_timing (d : DecoderTag) : (setDecoder d s).timing = s.timing := rfl
@[simp] theorem setDecoder_cfg (d : DecoderTag) : (setDecoder d s).cfg = s.cfg := rfl
@[simp] theorem setDecoder_cur (d : DecoderTag) : (setDecoder d s).cur = s.cur := rfl
@[simp] theorem setDecoder_input (d : DecoderTag) : (setDecoder d s).input = s.input := rfl
@[simp] theorem setDecoder_out (d : DecoderTag) : (setDecoder d s).out = s.out := rfl
@[simp] theorem setDecoder_stream (d : DecoderTag) : (setDecoder d s).stream = s.stream := rfl
@[simp] theorem setDecoder_fnResult (d : DecoderTag) : (setDecoder d s).fnResult = s.fnResult := rfl
@[simp] theorem setDecoder_field (d : DecoderTag) : (setDecoder d s).field = s.field := rfl

/-! ### bufAppend -/

@[simp] theorem bufAppend_frame (e : TimestampedByte) :
    (bufAppend e s).frame =
      { s.frame with payloadBuffer := s.frame.payloadBuffer ++ [e] } := rfl
@[simp] theorem bufAppend_timing (e : TimestampedByte) : (bufAppend e s).timing = s.timing := rfl
@[simp] theorem bufAppend_cfg (e : TimestampedByte) : (bufAppend e s).cfg = s.cfg := rfl
@[simp] theorem bufAppend_cur (e : TimestampedByte) : (bufAppend e s).cur = s.cur := rfl
@[simp] theorem bufAppend_input (e : TimestampedByte) : (bufAppend e s).input = s.input := rfl
@[simp] theorem bufAppend_out (e : TimestampedByte) : (bufAppend e s).out = s.out := rfl
@[simp] theorem bufAppend_stream (e : TimestampedByte) : (bufAppend e s).stream = s.stream := rfl
@[simp] theorem bufAppend_fnResult (e : TimestampedByte) :
    (bufAppend e s).fnResult =
      s.fnResult := rfl
@[simp] theorem bufAppend_field (e : TimestampedByte) : (bufAppend e s).field = s.field := rfl

/-! ### bufClear -/

@[simp] theorem bufClear_frame : (bufClear s).frame = { s.frame with payloadBuffer := [] } := rfl
@[simp] theorem bufClear_timing : (bufClear s).timing = s.timing := rfl
@[simp] theorem bufClear_cfg : (bufClear s).cfg = s.cfg := rfl
@[simp] theorem bufClear_cur : (bufClear s).cur = s.cur := rfl
@[simp] theorem bufClear_input : (bufClear s).input = s.input := rfl
@[simp] theorem bufClear_out : (bufClear s).out = s.out := rfl
@[simp] theorem bufClear_stream : (bufClear s).stream = s.stream := rfl
@[simp] theorem bufClear_fnResult : (bufClear s).fnResult = s.fnResult := rfl
@[simp] theorem bufClear_field : (bufClear s).field = s.field := rfl

/-! ### setV1Count -/

@[simp] theorem setV1Count_frame (n k : Nat) :
    (setV1Count n k s).frame =
      { s.frame with v1 := { s.frame.v1 with expectedLen := n, receivedCount := k } } := rfl
@[simp] theorem setV1Count_timing (n k : Nat) : (setV1Count n k s).timing = s.timing := rfl
@[simp] theorem setV1Count_cfg (n k : Nat) : (setV1Count n k s).cfg = s.cfg := rfl
@[simp] theorem setV1Count_cur (n k : Nat) : (setV1Count n k s).cur = s.cur := rfl
@[simp] theorem setV1Count_input (n k : Nat) : (setV1Count n k s).input = s.input := rfl
@[simp] theorem setV1Count_out (n k : Nat) : (setV1Count n k s).out = s.out := rfl
@[simp] theorem setV1Count_stream (n k : Nat) : (setV1Count n k s).stream = s.stream := rfl
@[simp] theorem setV1Count_fnResult (n k : Nat) : (setV1Count n k s).fnResult = s.fnResult := rfl
@[simp] theorem setV1Count_field (n k : Nat) : (setV1Count n k s).field = s.field := rfl

/-! ### bumpV1 -/

@[simp] theorem bumpV1_frame :
    (bumpV1 s).frame =
      { s.frame with v1 := { s.frame.v1 with receivedCount := s.frame.v1.receivedCount + 1 } } := rfl
@[simp] theorem bumpV1_timing : (bumpV1 s).timing = s.timing := rfl
@[simp] theorem bumpV1_cfg : (bumpV1 s).cfg = s.cfg := rfl
@[simp] theorem bumpV1_cur : (bumpV1 s).cur = s.cur := rfl
@[simp] theorem bumpV1_input : (bumpV1 s).input = s.input := rfl
@[simp] theorem bumpV1_out : (bumpV1 s).out = s.out := rfl
@[simp] theorem bumpV1_stream : (bumpV1 s).stream = s.stream := rfl
@[simp] theorem bumpV1_fnResult : (bumpV1 s).fnResult = s.fnResult := rfl
@[simp] theorem bumpV1_field : (bumpV1 s).field = s.field := rfl

/-! ### setV1FuncId -/

@[simp] theorem setV1FuncId_frame (v : Byte) :
    (setV1FuncId v s).frame =
      { s.frame with v1 := { s.frame.v1 with funcId := v } } := rfl
@[simp] theorem setV1FuncId_timing (v : Byte) : (setV1FuncId v s).timing = s.timing := rfl
@[simp] theorem setV1FuncId_cfg (v : Byte) : (setV1FuncId v s).cfg = s.cfg := rfl
@[simp] theorem setV1FuncId_cur (v : Byte) : (setV1FuncId v s).cur = s.cur := rfl
@[simp] theorem setV1FuncId_input (v : Byte) : (setV1FuncId v s).input = s.input := rfl
@[simp] theorem setV1FuncId_out (v : Byte) : (setV1FuncId v s).out = s.out := rfl
@[simp] theorem setV1FuncId_stream (v : Byte) : (setV1FuncId v s).stream = s.stream := rfl
@[simp] theorem setV1FuncId_fnResult (v : Byte) : (setV1FuncId v s).fnResult = s.fnResult := rfl
@[simp] theorem setV1FuncId_field (v : Byte) : (setV1FuncId v s).field = s.field := rfl

/-! ### setV2Count -/

@[simp] theorem setV2Count_frame (n k : Nat) :
    (setV2Count n k s).frame =
      { s.frame with v2 := { s.frame.v2 with expectedLen := n, receivedCount := k } } := rfl
@[simp] theorem setV2Count_timing (n k : Nat) : (setV2Count n k s).timing = s.timing := rfl
@[simp] theorem setV2Count_cfg (n k : Nat) : (setV2Count n k s).cfg = s.cfg := rfl
@[simp] theorem setV2Count_cur (n k : Nat) : (setV2Count n k s).cur = s.cur := rfl
@[simp] theorem setV2Count_input (n k : Nat) : (setV2Count n k s).input = s.input := rfl
@[simp] theorem setV2Count_out (n k : Nat) : (setV2Count n k s).out = s.out := rfl
@[simp] theorem setV2Count_stream (n k : Nat) : (setV2Count n k s).stream = s.stream := rfl
@[simp] theorem setV2Count_fnResult (n k : Nat) : (setV2Count n k s).fnResult = s.fnResult := rfl
@[simp] theorem setV2Count_field (n k : Nat) : (setV2Count n k s).field = s.field := rfl

/-! ### bumpV2 -/

@[simp] theorem bumpV2_frame :
    (bumpV2 s).frame =
      { s.frame with v2 := { s.frame.v2 with receivedCount := s.frame.v2.receivedCount + 1 } } := rfl
@[simp] theorem bumpV2_timing : (bumpV2 s).timing = s.timing := rfl
@[simp] theorem bumpV2_cfg : (bumpV2 s).cfg = s.cfg := rfl
@[simp] theorem bumpV2_cur : (bumpV2 s).cur = s.cur := rfl
@[simp] theorem bumpV2_input : (bumpV2 s).input = s.input := rfl
@[simp] theorem bumpV2_out : (bumpV2 s).out = s.out := rfl
@[simp] theorem bumpV2_stream : (bumpV2 s).stream = s.stream := rfl
@[simp] theorem bumpV2_fnResult : (bumpV2 s).fnResult = s.fnResult := rfl
@[simp] theorem bumpV2_field : (bumpV2 s).field = s.field := rfl

/-! ### setFuncAcc -/

@[simp] theorem setFuncAcc_frame (a : Half) :
    (setFuncAcc a s).frame =
      { s.frame with v2 := { s.frame.v2 with funcAcc := a } } := rfl
@[simp] theorem setFuncAcc_timing (a : Half) : (setFuncAcc a s).timing = s.timing := rfl
@[simp] theorem setFuncAcc_cfg (a : Half) : (setFuncAcc a s).cfg = s.cfg := rfl
@[simp] theorem setFuncAcc_cur (a : Half) : (setFuncAcc a s).cur = s.cur := rfl
@[simp] theorem setFuncAcc_input (a : Half) : (setFuncAcc a s).input = s.input := rfl
@[simp] theorem setFuncAcc_out (a : Half) : (setFuncAcc a s).out = s.out := rfl
@[simp] theorem setFuncAcc_stream (a : Half) : (setFuncAcc a s).stream = s.stream := rfl
@[simp] theorem setFuncAcc_fnResult (a : Half) : (setFuncAcc a s).fnResult = s.fnResult := rfl
@[simp] theorem setFuncAcc_field (a : Half) : (setFuncAcc a s).field = s.field := rfl

/-! ### setFuncStart -/

@[simp] theorem setFuncStart_frame (t : Nat) :
    (setFuncStart t s).frame =
      { s.frame with v2 := { s.frame.v2 with funcStart := t } } := rfl
@[simp] theorem setFuncStart_timing (t : Nat) : (setFuncStart t s).timing = s.timing := rfl
@[simp] theorem setFuncStart_cfg (t : Nat) : (setFuncStart t s).cfg = s.cfg := rfl
@[simp] theorem setFuncStart_cur (t : Nat) : (setFuncStart t s).cur = s.cur := rfl
@[simp] theorem setFuncStart_input (t : Nat) : (setFuncStart t s).input = s.input := rfl
@[simp] theorem setFuncStart_out (t : Nat) : (setFuncStart t s).out = s.out := rfl
@[simp] theorem setFuncStart_stream (t : Nat) : (setFuncStart t s).stream = s.stream := rfl
@[simp] theorem setFuncStart_fnResult (t : Nat) : (setFuncStart t s).fnResult = s.fnResult := rfl
@[simp] theorem setFuncStart_field (t : Nat) : (setFuncStart t s).field = s.field := rfl

/-! ### setLenAcc -/

@[simp] theorem setLenAcc_frame (a : Half) :
    (setLenAcc a s).frame =
      { s.frame with v2 := { s.frame.v2 with lenAcc := a } } := rfl
@[simp] theorem setLenAcc_timing (a : Half) : (setLenAcc a s).timing = s.timing := rfl
@[simp] theorem setLenAcc_cfg (a : Half) : (setLenAcc a s).cfg = s.cfg := rfl
@[simp] theorem setLenAcc_cur (a : Half) : (setLenAcc a s).cur = s.cur := rfl
@[simp] theorem setLenAcc_input (a : Half) : (setLenAcc a s).input = s.input := rfl
@[simp] theorem setLenAcc_out (a : Half) : (setLenAcc a s).out = s.out := rfl
@[simp] theorem setLenAcc_stream (a : Half) : (setLenAcc a s).stream = s.stream := rfl
@[simp] theorem setLenAcc_fnResult (a : Half) : (setLenAcc a s).fnResult = s.fnResult := rfl
@[simp] theorem setLenAcc_field (a : Half) : (setLenAcc a s).field = s.field := rfl

/-! ### setLenStart -/

@[simp] theorem setLenStart_frame (t : Nat) :
    (setLenStart t s).frame =
      { s.frame with v2 := { s.frame.v2 with lenStart := t } } := rfl
@[simp] theorem setLenStart_timing (t : Nat) : (setLenStart t s).timing = s.timing := rfl
@[simp] theorem setLenStart_cfg (t : Nat) : (setLenStart t s).cfg = s.cfg := rfl
@[simp] theorem setLenStart_cur (t : Nat) : (setLenStart t s).cur = s.cur := rfl
@[simp] theorem setLenStart_input (t : Nat) : (setLenStart t s).input = s.input := rfl
@[simp] theorem setLenStart_out (t : Nat) : (setLenStart t s).out = s.out := rfl
@[simp] theorem setLenStart_stream (t : Nat) : (setLenStart t s).stream = s.stream := rfl
@[simp] theorem setLenStart_fnResult (t : Nat) : (setLenStart t s).fnResult = s.fnResult := rfl
@[simp] theorem setLenStart_field (t : Nat) : (setLenStart t s).field = s.field := rfl

/-! ### setCrc1 -/

@[simp] theorem setCrc1_frame (c : Byte) : (setCrc1 c s).frame = { s.frame with crc1 := c } := rfl
@[simp] theorem setCrc1_timing (c : Byte) : (setCrc1 c s).timing = s.timing := rfl
@[simp] theorem setCrc1_cfg (c : Byte) : (setCrc1 c s).cfg = s.cfg := rfl
@[simp] theorem setCrc1_cur (c : Byte) : (setCrc1 c s).cur = s.cur := rfl
@[simp] theorem setCrc1_input (c : Byte) : (setCrc1 c s).input = s.input := rfl
@[simp] theorem setCrc1_out (c : Byte) : (setCrc1 c s).out = s.out := rfl
@[simp] theorem setCrc1_stream (c : Byte) : (setCrc1 c s).stream = s.stream := rfl
@[simp] theorem setCrc1_fnResult (c : Byte) : (setCrc1 c s).fnResult = s.fnResult := rfl
@[simp] theorem setCrc1_field (c : Byte) : (setCrc1 c s).field = s.field := rfl

/-! ### setCrc2 -/

@[simp] theorem setCrc2_frame (c : Byte) : (setCrc2 c s).frame = { s.frame with crc2 := c } := rfl
@[simp] theorem setCrc2_timing (c : Byte) : (setCrc2 c s).timing = s.timing := rfl
@[simp] theorem setCrc2_cfg (c : Byte) : (setCrc2 c s).cfg = s.cfg := rfl
@[simp] theorem setCrc2_cur (c : Byte) : (setCrc2 c s).cur = s.cur := rfl
@[simp] theorem setCrc2_input (c : Byte) : (setCrc2 c s).input = s.input := rfl
@[simp] theorem setCrc2_out (c : Byte) : (setCrc2 c s).out = s.out := rfl
@[simp] theorem setCrc2_stream (c : Byte) : (setCrc2 c s).stream = s.stream := rfl
@[simp] theorem setCrc2_fnResult (c : Byte) : (setCrc2 c s).fnResult = s.fnResult := rfl
@[simp] theorem setCrc2_field (c : Byte) : (setCrc2 c s).field = s.field := rfl

/-! ### foldCrc1 -/

@[simp] theorem foldCrc1_frame :
    (foldCrc1 s).frame =
      { s.frame with crc1 := xor8 s.frame.crc1 s.cur.value } := rfl
@[simp] theorem foldCrc1_timing : (foldCrc1 s).timing = s.timing := rfl
@[simp] theorem foldCrc1_cfg : (foldCrc1 s).cfg = s.cfg := rfl
@[simp] theorem foldCrc1_cur : (foldCrc1 s).cur = s.cur := rfl
@[simp] theorem foldCrc1_input : (foldCrc1 s).input = s.input := rfl
@[simp] theorem foldCrc1_out : (foldCrc1 s).out = s.out := rfl
@[simp] theorem foldCrc1_stream : (foldCrc1 s).stream = s.stream := rfl
@[simp] theorem foldCrc1_fnResult : (foldCrc1 s).fnResult = s.fnResult := rfl
@[simp] theorem foldCrc1_field : (foldCrc1 s).field = s.field := rfl

/-! ### foldCrc2 -/

@[simp] theorem foldCrc2_frame :
    (foldCrc2 s).frame =
      { s.frame with crc2 := crc8 s.cfg.poly s.frame.crc2 s.cur.value } := rfl
@[simp] theorem foldCrc2_timing : (foldCrc2 s).timing = s.timing := rfl
@[simp] theorem foldCrc2_cfg : (foldCrc2 s).cfg = s.cfg := rfl
@[simp] theorem foldCrc2_cur : (foldCrc2 s).cur = s.cur := rfl
@[simp] theorem foldCrc2_input : (foldCrc2 s).input = s.input := rfl
@[simp] theorem foldCrc2_out : (foldCrc2 s).out = s.out := rfl
@[simp] theorem foldCrc2_stream : (foldCrc2 s).stream = s.stream := rfl
@[simp] theorem foldCrc2_fnResult : (foldCrc2 s).fnResult = s.fnResult := rfl
@[simp] theorem foldCrc2_field : (foldCrc2 s).field = s.field := rfl

/-! ### startCrc2 -/

@[simp] theorem startCrc2_frame :
    (startCrc2 s).frame =
      { s.frame with crc2 := crc8 s.cfg.poly 0#8 s.cur.value } := rfl
@[simp] theorem startCrc2_timing : (startCrc2 s).timing = s.timing := rfl
@[simp] theorem startCrc2_cfg : (startCrc2 s).cfg = s.cfg := rfl
@[simp] theorem startCrc2_cur : (startCrc2 s).cur = s.cur := rfl
@[simp] theorem startCrc2_input : (startCrc2 s).input = s.input := rfl
@[simp] theorem startCrc2_out : (startCrc2 s).out = s.out := rfl
@[simp] theorem startCrc2_stream : (startCrc2 s).stream = s.stream := rfl
@[simp] theorem startCrc2_fnResult : (startCrc2 s).fnResult = s.fnResult := rfl
@[simp] theorem startCrc2_field : (startCrc2 s).field = s.field := rfl

/-! ### emit -/

@[simp] theorem emit_frame (a z : Nat) (t : String) : (emit a z t s).frame = s.frame := rfl
@[simp] theorem emit_timing (a z : Nat) (t : String) : (emit a z t s).timing = s.timing := rfl
@[simp] theorem emit_cfg (a z : Nat) (t : String) : (emit a z t s).cfg = s.cfg := rfl
@[simp] theorem emit_cur (a z : Nat) (t : String) : (emit a z t s).cur = s.cur := rfl
@[simp] theorem emit_input (a z : Nat) (t : String) : (emit a z t s).input = s.input := rfl
@[simp] theorem emit_out (a z : Nat) (t : String) :
    (emit a z t s).out =
      s.out ++ [{ startTime := a, endTime := z, kind := .info, text := t }] := rfl
@[simp] theorem emit_stream (a z : Nat) (t : String) : (emit a z t s).stream = s.stream := rfl
@[simp] theorem emit_fnResult (a z : Nat) (t : String) :
    (emit a z t s).fnResult =
      s.fnResult := rfl
@[simp] theorem emit_field (a z : Nat) (t : String) : (emit a z t s).field = s.field := rfl

/-! ### emitCur -/

@[simp] theorem emitCur_frame (t : String) : (emitCur t s).frame = s.frame := rfl
@[simp] theorem emitCur_timing (t : String) : (emitCur t s).timing = s.timing := rfl
@[simp] theorem emitCur_cfg (t : String) : (emitCur t s).cfg = s.cfg := rfl
@[simp] theorem emitCur_cur (t : String) : (emitCur t s).cur = s.cur := rfl
@[simp] theorem emitCur_input (t : String) : (emitCur t s).input = s.input := rfl
@[simp] theorem emitCur_out (t : String) :
    (emitCur t s).out =
      s.out ++ [{ startTime := s.cur.startTime, endTime := s.cur.endTime, kind := .info, text := t }] := rfl
@[simp] theorem emitCur_stream (t : String) : (emitCur t s).stream = s.stream := rfl
@[simp] theorem emitCur_fnResult (t : String) : (emitCur t s).fnResult = s.fnResult := rfl
@[simp] theorem emitCur_field (t : String) : (emitCur t s).field = s.field := rfl

/-! ### emitAll -/

@[simp] theorem emitAll_frame (l : List LabeledField) : (emitAll l s).frame = s.frame := rfl
@[simp] theorem emitAll_timing (l : List LabeledField) : (emitAll l s).timing = s.timing := rfl
@[simp] theorem emitAll_cfg (l : List LabeledField) : (emitAll l s).cfg = s.cfg := rfl
@[simp] theorem emitAll_cur (l : List LabeledField) : (emitAll l s).cur = s.cur := rfl
@[simp] theorem emitAll_input (l : List LabeledField) : (emitAll l s).input = s.input := rfl
@[simp] theorem emitAll_out (l : List LabeledField) : (emitAll l s).out = s.out ++ l := rfl
@[simp] theorem emitAll_stream (l : List LabeledField) : (emitAll l s).stream = s.stream := rfl
@[simp] theorem emitAll_fnResult (l : List LabeledField) :
    (emitAll l s).fnResult =
      s.fnResult := rfl
@[simp] theorem emitAll_field (l : List LabeledField) : (emitAll l s).field = s.field := rfl

/-! ### frameReset -/

@[simp] theorem frameReset_frame : (frameReset s).frame = Frame.reset := rfl
@[simp] theorem frameReset_timing : (frameReset s).timing = s.timing := rfl
@[simp] theorem frameReset_cfg : (frameReset s).cfg = s.cfg := rfl
@[simp] theorem frameReset_cur : (frameReset s).cur = s.cur := rfl
@[simp] theorem frameReset_input : (frameReset s).input = s.input := rfl
@[simp] theorem frameReset_out : (frameReset s).out = s.out := rfl
@[simp] theorem frameReset_stream : (frameReset s).stream = s.stream := rfl
@[simp] theorem frameReset_fnResult : (frameReset s).fnResult = s.fnResult := rfl
@[simp] theorem frameReset_field : (frameReset s).field = s.field := rfl

/-! ### hardwareReset -/

@[simp] theorem hardwareReset_frame : (hardwareReset s).frame = Frame.reset := rfl
@[simp] theorem hardwareReset_timing : (hardwareReset s).timing = Timing.reset := rfl
@[simp] theorem hardwareReset_cfg : (hardwareReset s).cfg = s.cfg := rfl
@[simp] theorem hardwareReset_cur : (hardwareReset s).cur = s.cur := rfl
@[simp] theorem hardwareReset_input : (hardwareReset s).input = s.input := rfl
@[simp] theorem hardwareReset_out : (hardwareReset s).out = [] := rfl
@[simp] theorem hardwareReset_stream : (hardwareReset s).stream = s.stream := rfl
@[simp] theorem hardwareReset_fnResult : (hardwareReset s).fnResult = s.fnResult := rfl
@[simp] theorem hardwareReset_field : (hardwareReset s).field = s.field := rfl

/-! ### latch -/

@[simp] theorem latch_frame (b : TimestampedByte) (r : List HostInput) :
    (latch b r s).frame =
      s.frame := rfl
@[simp] theorem latch_timing (b : TimestampedByte) (r : List HostInput) :
    (latch b r s).timing =
      s.timing := rfl
@[simp] theorem latch_cfg (b : TimestampedByte) (r : List HostInput) :
    (latch b r s).cfg =
      s.cfg := rfl
@[simp] theorem latch_cur (b : TimestampedByte) (r : List HostInput) : (latch b r s).cur = b := rfl
@[simp] theorem latch_input (b : TimestampedByte) (r : List HostInput) :
    (latch b r s).input =
      r := rfl
@[simp] theorem latch_out (b : TimestampedByte) (r : List HostInput) : (latch b r s).out = [] := rfl
@[simp] theorem latch_stream (b : TimestampedByte) (r : List HostInput) :
    (latch b r s).stream =
      s.stream := rfl
@[simp] theorem latch_fnResult (b : TimestampedByte) (r : List HostInput) :
    (latch b r s).fnResult =
      s.fnResult := rfl
@[simp] theorem latch_field (b : TimestampedByte) (r : List HostInput) :
    (latch b r s).field =
      s.field := rfl

/-! ### closeStep -/

@[simp] theorem closeStep_frame : (closeStep s).frame = s.frame := rfl
@[simp] theorem closeStep_timing :
    (closeStep s).timing =
      { s.timing with lastByteTime := s.cur.endTime } := rfl
@[simp] theorem closeStep_cfg : (closeStep s).cfg = s.cfg := rfl
@[simp] theorem closeStep_cur : (closeStep s).cur = s.cur := rfl
@[simp] theorem closeStep_input : (closeStep s).input = s.input := rfl
@[simp] theorem closeStep_out : (closeStep s).out = s.out := rfl
@[simp] theorem closeStep_stream : (closeStep s).stream = s.stream ++ s.out := rfl
@[simp] theorem closeStep_fnResult : (closeStep s).fnResult = s.fnResult := rfl
@[simp] theorem closeStep_field : (closeStep s).field = s.field := rfl

/-! ### setField -/

@[simp] theorem setField_frame (f : FieldPorts) : (setField f s).frame = s.frame := rfl
@[simp] theorem setField_timing (f : FieldPorts) : (setField f s).timing = s.timing := rfl
@[simp] theorem setField_cfg (f : FieldPorts) : (setField f s).cfg = s.cfg := rfl
@[simp] theorem setField_cur (f : FieldPorts) : (setField f s).cur = s.cur := rfl
@[simp] theorem setField_input (f : FieldPorts) : (setField f s).input = s.input := rfl
@[simp] theorem setField_out (f : FieldPorts) : (setField f s).out = s.out := rfl
@[simp] theorem setField_stream (f : FieldPorts) : (setField f s).stream = s.stream := rfl
@[simp] theorem setField_fnResult (f : FieldPorts) : (setField f s).fnResult = s.fnResult := rfl
@[simp] theorem setField_field (f : FieldPorts) : (setField f s).field = f := rfl

end Sys2Proof.Machine
end

