-- ==== Sys2Proof/Laws/Ops.lean ====
section
/-! SUPPORT. For each shared operation, what it can do, said once: the buffer, the counters' operand
forms, the responses to error conditions, the encapsulated wrapper, and the parts of a step. -/

namespace Sys2Proof.Machine

/-! ## The payload buffer -/

@[simp] theorem memory_wf_nil : Memory.wf [] = true := rfl

/-- `BufAppend` keeps the buffer within its capacity while there is room. -/
theorem bufAppend_wf (e : TimestampedByte) (s : State)
    (room : s.frame.payloadBuffer.length < bufDepth) :
    Memory.wf (bufAppend e s).frame.payloadBuffer = true := by
  simp only [Memory.wf, bufAppend_frame, List.length_append, List.length_singleton]
  exact decide_eq_true room

/-- `BufClear` keeps the buffer within its capacity. -/
theorem bufClear_wf (s : State) : Memory.wf (bufClear s).frame.payloadBuffer = true := rfl

/-- `FrameReset` keeps the buffer within its capacity. -/
theorem frameReset_wf (s : State) : Memory.wf (frameReset s).frame.payloadBuffer = true := rfl

/-- Hardware reset keeps the buffer within its capacity. -/
theorem hardwareReset_wf (s : State) : Memory.wf (hardwareReset s).frame.payloadBuffer = true := rfl

/-- The buffer of the reset state is within its capacity. -/
theorem reset_wf : Memory.wf State.reset.frame.payloadBuffer = true := rfl

/-- What an index reads after `BufAppend`: the new entry at the old length, elsewhere as before. -/
theorem entryAt_bufAppend (e : TimestampedByte) (s : State) (i : Nat) :
    entryAt (bufAppend e s).frame.payloadBuffer i =
      if i = s.frame.payloadBuffer.length then some e else entryAt s.frame.payloadBuffer i := by
  simp only [entryAt, bufAppend_frame]
  split
  · next h => subst h; simp
  · next h =>
    rcases Nat.lt_or_gt_of_ne h with lt | gt
    · simp [List.getElem?_append_left lt]
    · rw [List.getElem?_eq_none (by simp; omega), List.getElem?_eq_none (by omega)]

/-- A read of `n` entries that exist gives `n` entries. -/
theorem memRead_length (m : Memory) (addr n : Nat) (fits : addr + n ≤ m.length) :
    (memRead m addr n).length = n := by
  simp [memRead]; omega

/-- What `MemRead` gives at a place is the entry at that place from the address on (R54). -/
theorem memRead_getElem? (m : Memory) (addr n k : Nat) :
    (memRead m addr n)[k]? = if k < n then entryAt m (addr + k) else none := by
  simp only [memRead, entryAt, List.getElem?_take, List.getElem?_drop]

/-! ## Operand forms and flags -/

@[simp] theorem bigEndian_nil : bigEndian [] = 0 := rfl

/-- The value of a chunk with one more byte at its end. -/
theorem bigEndian_concat (c : List TimestampedByte) (e : TimestampedByte) :
    bigEndian (c ++ [e]) = 256 * bigEndian c + e.value.toNat := by
  simp [bigEndian]

/-- The idle comparison is exact (R123). -/
theorem idleExceeded_iff (s : State) :
    idleExceeded s = true ↔
      60 * s.timing.calDuration < 19 * (s.cur.startTime - s.timing.lastByteTime) := by
  simp [idleExceeded]

/-- Encapsulated mode is the v1 decoder in a v2 sub-state (R25). -/
theorem encap_iff (f : Frame) :
    encap f = true ↔ f.decoder = .v1 ∧ isV2SubState f.state = true := by
  simp [encap]

/-- The completion test of v1 (R40). -/
theorem v1Complete_iff (f : Frame) :
    v1Complete f = true ↔ f.v1.receivedCount = f.v1.expectedLen := by
  simp [v1Complete]

/-- The completion test of v2 (R40). -/
theorem v2Complete_iff (f : Frame) :
    v2Complete f = true ↔ f.v2.receivedCount = f.v2.expectedLen := by
  simp [v2Complete]

/-- `v1Last` (R80). -/
theorem v1Last_iff (f : Frame) :
    v1Last f = true ↔ f.v1.receivedCount + 1 = f.v1.expectedLen := by
  simp [v1Last]

/-- `v2Last` (R80). -/
theorem v2Last_iff (f : Frame) :
    v2Last f = true ↔ f.v2.receivedCount + 1 = f.v2.expectedLen := by
  simp [v2Last]

/-! ## The checksum engines -/

/-- One CRC iteration in 8 bits: the ninth bit of R101's shift is always discarded. -/
theorem crc8Iteration_eq (poly t : Byte) :
    crc8Iteration poly t = if t.getLsbD 7 then (t <<< 1) ^^^ poly else t <<< 1 := by
  unfold crc8Iteration
  split <;> (ext i hi; simp; try omega)

/-! ## Error conditions -/

@[simp] theorem signal_badTransport (s : State) : signal .badTransport s = emitCur "INVALID" s := rfl
@[simp] theorem signal_badVersion (s : State) : signal .badVersion s = s := rfl
@[simp] theorem signal_crcMismatch (s : State) : signal .crcMismatch s = emitCur "CRC ERROR" s := rfl
@[simp] theorem signal_unknownFunction (s : State) :
    signal .unknownFunction s = emitCur "Func: UNKNOWN" s := rfl
@[simp] theorem signal_enumRange (s : State) : signal .enumRange s = emitCur "ERROR" s := rfl
@[simp] theorem signal_idleTimeout (s : State) : signal .idleTimeout s = s := rfl
@[simp] theorem enumError_eq : enumError = "ERROR" := rfl

/-! ## The encapsulated wrapper (R180) -/

/-- All the wrapper does: the outer fold and count, the inner operation, and one next state. -/
theorem encapsulate_eq (inner : State → State) (n : InnerNext) (s : State) :
    encapsulate inner n s =
      setState
        (if (inner (bumpV1 (foldCrc1 s))).frame.v1.receivedCount =
            (inner (bumpV1 (foldCrc1 s))).frame.v1.expectedLen then .v1Checksum
        else
          match n with
          | .done => .v1Payload
          | .goto p => p)
        (inner (bumpV1 (foldCrc1 s))) := by
  simp only [encapsulate, v1Complete, beq_iff_eq]
  split
  · rfl
  · cases n <;> rfl

/-! ## The field decoder's walk (R200) -/

/-- How many bytes a descriptor consumes: at least one and at most what is left. -/
theorem fieldCount_bounds (w : Int) (left : Nat) (hw : w ≠ 0) (hl : 0 < left) :
    0 < fieldCount w left ∧ fieldCount w left ≤ left := by
  unfold fieldCount fixedCount
  split
  · exact ⟨hl, Nat.le_refl _⟩
  · have : 0 < w := by omega
    simp only [this, if_true]
    omega

@[simp] theorem walk_nil (buf : Memory) (pos : Nat) : walk buf [] pos = [] := rfl

/-- The walk stops where the buffer is exhausted. -/
theorem walk_exhausted (buf : Memory) (lay : Layout) (pos : Nat) (h : buf.length ≤ pos) :
    walk buf lay pos = [] := by
  cases lay <;> simp [walk, h]

/-- A descriptor of width 0 is skipped. -/
theorem walk_skip (buf : Memory) (d : FieldDesc) (ds : Layout) (pos : Nat) (hw : d.width = 0) :
    walk buf (d :: ds) pos = walk buf ds pos := by
  by_cases h : buf.length ≤ pos
  · rw [walk_exhausted _ _ _ h, walk_exhausted _ _ _ h]
  · simp [walk, h, hw]

/-- Any other descriptor consumes its bytes, and the walk goes on after them. -/
theorem walk_consume (buf : Memory) (d : FieldDesc) (ds : Layout) (pos : Nat)
    (hp : pos < buf.length) (hw : d.width ≠ 0) :
    walk buf (d :: ds) pos =
      (d, memRead buf pos (fieldCount d.width (buf.length - pos))) ::
        walk buf ds (pos + fieldCount d.width (buf.length - pos)) := by
  simp [walk, hw, Nat.not_le.mpr hp]

@[simp] theorem spanLabel_nil (t : String) : spanLabel t [] = [] := rfl
@[simp] theorem spanLabel_cons (t : String) (e : TimestampedByte) (es : List TimestampedByte) :
    spanLabel t (e :: es) =
      [{ startTime := e.startTime, endTime := (es.getLastD e).endTime, kind := .info, text := t }] :=
  rfl

@[simp] theorem decodeFields_none (buf : Memory) : decodeFields none buf = opaqueLabels buf := rfl
@[simp] theorem decodeFields_some (l : Layout) (buf : Memory) :
    decodeFields (some l) buf = (walk buf l 0).flatMap fieldLabel := rfl

/-! ## The operation word -/

@[simp] theorem stateOfCode_stateCode (p : ParserState) : stateOfCode (stateCode p) = p := by
  cases p <;> rfl

@[simp] theorem decoderOfCode_decoderCode (d : DecoderTag) : decoderOfCode (decoderCode d) = d := by
  cases d <;> rfl

/-- What the decoder reads from the operation word of a state: the row of its selector's group that the
condition logic chooses. -/
theorem decode_operationWord (s : State) :
    decode (operationWord s) =
      rowAt (stepGroup s.frame.decoder s.frame.state) (chosenRow s).toNat [] := by
  unfold operationWord
  generalize s.frame.decoder = d, s.frame.state = p, chosenRow s = k
  revert k
  cases d <;> cases p <;> decide

/-! ## The parts of a step -/

@[simp] theorem andThen_next (s : State) (f : State → Result) : andThen (.next s) f = f s := rfl

/-- A sequence answers a next state only through the next state of its first part. -/
theorem andThen_eq_next {r : Result} {f : State → Result} {t : State}
    (h : andThen r f = .next t) : ∃ s, r = .next s ∧ f s = .next t := by
  cases r with
  | next s => exact ⟨s, rfl, h⟩
  | fault e => cases h
  | refused e => cases h

/-- All a byte's step can do when it goes on: the pre-step, the reset of an illegal selector, the chosen
operation, and the end of the step. -/
theorem byteStep_eq_next {s t : State} (h : byteStep s = .next t) :
    ∃ a b c,
      exec (preOperation s) s = .next a ∧ legalise a = .next b ∧ runOperation b = .next c ∧
        t = closeStep c := by
  obtain ⟨a, ha, h⟩ := andThen_eq_next h
  obtain ⟨b, hb, h⟩ := andThen_eq_next h
  obtain ⟨c, hc, h⟩ := andThen_eq_next h
  cases h
  exact ⟨a, b, c, ha, hb, hc, rfl⟩

/-- The chosen operation is performed. -/
theorem runOperation_of_decode {s : State} {i : Instr} {rest : List Byte}
    (h : decode (operationWord s) = .ok (i, rest)) : runOperation s = exec i s := by
  simp [runOperation, h]

/-- A step with nothing delivered. -/
theorem step_of_no_input {s : State} (h : s.input = []) : step s = .next s := by
  simp [step, cycle, h]

/-- A step that takes a hardware reset. -/
theorem step_of_reset {s : State} {rest : List HostInput} (h : s.input = .reset :: rest) :
    step s = .next (hardwareReset { s with input := rest }) := by
  simp [step, cycle, h]

/-- A step that takes a byte. -/
theorem step_of_byte {s : State} {b : TimestampedByte} {rest : List HostInput}
    (h : s.input = .byte b :: rest) : step s = byteStep (latch b rest s) := by
  simp [step, cycle, h]

end Sys2Proof.Machine
end

