-- ==== Sys2Proof/Laws/PerInstr.lean ====
section
/-! SUPPORT. A statement for all operations, proved operation by operation: the shape of an operation's
words. -/

namespace Sys2Proof.Laws.EncodeShape

/-- The words of an operation are two bytes, and a checksum engine's two operand bytes follow. -/
def Statement (i : Instr) : Prop :=
  (encode i).length =
    match i with
    | .xor8 _ _ | .crc8 _ _ => 4
    | _ => 2

theorem calibrate : Statement .calibrate := rfl
theorem timeout : Statement .timeout := rfl
theorem idleStart : Statement .idleStart := rfl
theorem idleSkip : Statement .idleSkip := rfl
theorem startV1 : Statement .startV1 := rfl
theorem startV2 : Statement .startV2 := rfl
theorem startOther : Statement .startOther := rfl
theorem hmFlagsvar : Statement .hmFlagsvar := rfl
theorem hmKnown : Statement .hmKnown := rfl
theorem hmInvalid : Statement .hmInvalid := rfl
theorem v1Flags : Statement .v1Flags := rfl
theorem v1Size : Statement .v1Size := rfl
theorem v1FuncPayload : Statement .v1FuncPayload := rfl
theorem v1FuncEmpty : Statement .v1FuncEmpty := rfl
theorem v1FuncEncap : Statement .v1FuncEncap := rfl
theorem v1PayloadMore : Statement .v1PayloadMore := rfl
theorem v1PayloadLast : Statement .v1PayloadLast := rfl
theorem v1ChecksumOk : Statement .v1ChecksumOk := rfl
theorem v1ChecksumErr : Statement .v1ChecksumErr := rfl
theorem hxKnown : Statement .hxKnown := rfl
theorem hxInvalid : Statement .hxInvalid := rfl
theorem v2Flags : Statement .v2Flags := rfl
theorem v2Func1 : Statement .v2Func1 := rfl
theorem v2Func2 : Statement .v2Func2 := rfl
theorem v2Size1 : Statement .v2Size1 := rfl
theorem v2Size2Payload : Statement .v2Size2Payload := rfl
theorem v2Size2Empty : Statement .v2Size2Empty := rfl
theorem v2PayloadMore : Statement .v2PayloadMore := rfl
theorem v2PayloadLast : Statement .v2PayloadLast := rfl
theorem v2ChecksumOk : Statement .v2ChecksumOk := rfl
theorem v2ChecksumErr : Statement .v2ChecksumErr := rfl
theorem eFlags : Statement .eFlags := rfl
theorem eFunc1 : Statement .eFunc1 := rfl
theorem eFunc2 : Statement .eFunc2 := rfl
theorem eSize1 : Statement .eSize1 := rfl
theorem eSize2 : Statement .eSize2 := rfl
theorem ePayload : Statement .ePayload := rfl
theorem eChecksum : Statement .eChecksum := rfl
theorem illegal (d : DecoderTag) (p : ParserState) : Statement (.illegal d p) := rfl
theorem xor8 (c v : Byte) : Statement (.xor8 c v) := rfl
theorem crc8 (c v : Byte) : Statement (.crc8 c v) := rfl
theorem fdRun : Statement .fdRun := rfl
theorem fdOpaque : Statement .fdOpaque := rfl
theorem fdSkip : Statement .fdSkip := rfl
theorem fdFixedw : Statement .fdFixedw := rfl
theorem fdRest : Statement .fdRest := rfl
theorem fdIText : Statement .fdIText := rfl
theorem fdIFixed : Statement .fdIFixed := rfl
theorem fdIIndex : Statement .fdIIndex := rfl
theorem fdIMap : Statement .fdIMap := rfl
theorem fdIRaw : Statement .fdIRaw := rfl

end Sys2Proof.Laws.EncodeShape
end

