-- ==== Sys2Proof/Tests/Slice0.lean ====
section
/-! SUPPORT. Tests: the words of the operation map written out from the spec, what the well-formedness
checks refuse, small steps on the spec's worked examples, and for each statement with hypotheses a
state that meets them. Expected values come from the rules' examples and from `95_test_vectors.md`. -/

namespace Sys2Proof.Tests

open Sys2Proof Sys2Proof.Machine

/-! ## Words written out from R78, R79 and R81

The low byte is the selector (decoder code in bits 5..4, state code in bits 3..0); the high byte is the
format and the place in the group (log entry 4). -/

theorem test_decode_idle :
    decode [0x00#8, 0x00#8] = .ok (.idleStart, []) ∧
      decode [0x00#8, 0x01#8] = .ok (.idleSkip, []) := by decide

theorem test_decode_start :
    decode [0x01#8, 0x00#8] = .ok (.startV1, []) ∧
      decode [0x01#8, 0x01#8] = .ok (.startV2, []) ∧
      decode [0x01#8, 0x02#8] = .ok (.startOther, []) := by decide

theorem test_decode_v1_header :
    decode [0x12#8, 0x00#8] = .ok (.hmFlagsvar, []) ∧
      decode [0x12#8, 0x01#8] = .ok (.hmKnown, []) ∧
      decode [0x12#8, 0x02#8] = .ok (.hmInvalid, []) ∧
      decode [0x14#8, 0x00#8] = .ok (.v1Flags, []) ∧
      decode [0x15#8, 0x00#8] = .ok (.v1Size, []) ∧
      decode [0x16#8, 0x00#8] = .ok (.v1FuncPayload, []) ∧
      decode [0x16#8, 0x01#8] = .ok (.v1FuncEmpty, []) ∧
      decode [0x16#8, 0x02#8] = .ok (.v1FuncEncap, []) := by decide

theorem test_decode_v1_payload :
    decode [0x17#8, 0x00#8] = .ok (.v1PayloadMore, []) ∧
      decode [0x17#8, 0x01#8] = .ok (.v1PayloadLast, []) ∧
      decode [0x18#8, 0x00#8] = .ok (.v1ChecksumOk, []) ∧
      decode [0x18#8, 0x01#8] = .ok (.v1ChecksumErr, []) := by decide

theorem test_decode_v2_header :
    decode [0x23#8, 0x00#8] = .ok (.hxKnown, []) ∧
      decode [0x23#8, 0x01#8] = .ok (.hxInvalid, []) ∧
      decode [0x29#8, 0x00#8] = .ok (.v2Flags, []) ∧
      decode [0x2A#8, 0x00#8] = .ok (.v2Func1, []) ∧
      decode [0x2B#8, 0x00#8] = .ok (.v2Func2, []) ∧
      decode [0x2C#8, 0x00#8] = .ok (.v2Size1, []) ∧
      decode [0x2D#8, 0x00#8] = .ok (.v2Size2Payload, []) ∧
      decode [0x2D#8, 0x01#8] = .ok (.v2Size2Empty, []) := by decide

theorem test_decode_v2_payload :
    decode [0x2E#8, 0x00#8] = .ok (.v2PayloadMore, []) ∧
      decode [0x2E#8, 0x01#8] = .ok (.v2PayloadLast, []) ∧
      decode [0x2F#8, 0x00#8] = .ok (.v2ChecksumOk, []) ∧
      decode [0x2F#8, 0x01#8] = .ok (.v2ChecksumErr, []) := by decide

theorem test_decode_encapsulated :
    decode [0x19#8, 0x00#8] = .ok (.eFlags, []) ∧
      decode [0x1A#8, 0x00#8] = .ok (.eFunc1, []) ∧
      decode [0x1B#8, 0x00#8] = .ok (.eFunc2, []) ∧
      decode [0x1C#8, 0x00#8] = .ok (.eSize1, []) ∧
      decode [0x1D#8, 0x00#8] = .ok (.eSize2, []) ∧
      decode [0x1E#8, 0x00#8] = .ok (.ePayload, []) ∧
      decode [0x1F#8, 0x00#8] = .ok (.eChecksum, []) := by decide

theorem test_decode_illegal :
    decode [0x02#8, 0x00#8] = .ok (.illegal .none .headerM, []) ∧
      decode [0x10#8, 0x00#8] = .ok (.illegal .v1 .idle, []) ∧
      decode [0x27#8, 0x00#8] = .ok (.illegal .v2 .v1Payload, []) ∧
      decode [0x3F#8, 0x00#8] = .ok (.illegal .reserved .v2Checksum, []) := by decide

theorem test_decode_rows_without_selector :
    decode [0x00#8, 0x10#8] = .ok (.calibrate, []) ∧
      decode [0x00#8, 0x11#8] = .ok (.timeout, []) ∧
      decode [0x00#8, 0x20#8, 0x03#8, 0xAA#8] = .ok (.xor8 0x03#8 0xAA#8, []) ∧
      decode [0x00#8, 0x21#8, 0x00#8, 0x02#8] = .ok (.crc8 0x00#8 0x02#8, []) := by decide

theorem test_decode_field_rows :
    decode [0x00#8, 0x30#8] = .ok (.fdRun, []) ∧
      decode [0x00#8, 0x31#8] = .ok (.fdOpaque, []) ∧
      decode [0x00#8, 0x32#8] = .ok (.fdSkip, []) ∧
      decode [0x00#8, 0x33#8] = .ok (.fdFixedw, []) ∧
      decode [0x00#8, 0x34#8] = .ok (.fdRest, []) ∧
      decode [0x00#8, 0x35#8] = .ok (.fdIText, []) ∧
      decode [0x00#8, 0x36#8] = .ok (.fdIFixed, []) ∧
      decode [0x00#8, 0x37#8] = .ok (.fdIIndex, []) ∧
      decode [0x00#8, 0x38#8] = .ok (.fdIMap, []) ∧
      decode [0x00#8, 0x39#8] = .ok (.fdIRaw, []) := by decide

theorem test_decode_refuses :
    decode [] = .error .truncated ∧ decode [0x15#8] = .error .truncated ∧
      decode [0x00#8, 0x20#8, 0x03#8] = .error .truncated ∧
      decode [0x00#8, 0x02#8] = .error .noSuchRow ∧ decode [0x00#8, 0x3A#8] = .error .noSuchRow ∧
      decode [0x00#8, 0xF0#8] = .error .reservedFormat := by decide

theorem test_table_word :
    decodeTableWord 8 0x15 = some .v1Size ∧ decodeTableWord 8 0x27 = some (.illegal .v2 .v1Payload) := by
  decide

/-- Placed in the state after reset, the operation of `0x15` runs in the very next step (log entry 12). -/
theorem test_with_fetch_word :
    (match step (State.reset.withFetchWord 8 0x15) with
      | .next t => some (t.frame.decoder, t.frame.state)
      | _ => none) =
      some (.v1, .v1PayloadFunc) := by decide

/-! ## What the well-formedness checks refuse -/

theorem test_wf_refuses_legal_pair_in_illegal : Instr.wf (.illegal .v1 .v1Payload) = false := by decide

theorem test_wf_refuses_flags_variant_without_name :
    Cfg.wf { Cfg.blank with ttFlagsVariant := some 0x3F#8 } = false := by decide

theorem test_wf_refuses_byte_thstateAtends_early :
    TimestampedByte.wf { value := 0#8, startTime := 5, endTime := 4 } = false := by decide

theorem test_wf_refuses_overlapping_bytes :
    orderedFrom 0
        [{ value := 0#8, startTime := 1, endTime := 4 }, { value := 0#8, startTime := 3, endTime := 6 }] =
      false := by decide

theorem test_memory_wf_refuses_overflow :
    Memory.wf (List.replicate 65536 { value := 0#8, startTime := 0, endTime := 0 }) = false := by
  rw [Memory.wf, List.length_replicate]; rfl

/-! ## Helpers: a part of the reference configuration of R12, and small states -/

/-- Part of `REFCFG` (R12). -/
def cfg : Cfg :=
  { startMarker := 0x24#8
    versionTags := [(0x4D#8, .v1), (0x58#8, .v2)]
    transportTypes := [(0x3C#8, "REQ"), (0x3E#8, "RESP"), (0x3F#8, "FLAGGED")]
    ttFlagsVariant := some 0x3F#8
    functionNames :=
      [((.v1, 0x01), "MSP_API_VERSION"), ((.v1, 0x64), "MSP_IDENT"), ((.v1, 0xFF), "MSP_V2_FRAME"),
        ((.v2, 0x0002), "MSP2_TEST"), ((.v2, 0x1234), "MSP2_BIG")]
    fieldLayouts :=
      [(0x01, [{ width := 1, interp := .rawInteger }, { width := 1, interp := .rawInteger }])]
    funcV2Frame := 0xFF#8
    poly := 0xD5#8 }

/-- A calibrated state at a cursor, with a byte in hand. -/
def stateAt (d : DecoderTag) (p : ParserState) (v : Byte) : State :=
  { State.ofCfg cfg with
    frame := { Frame.reset with decoder := d, state := p }
    timing := { lastByteTime := 990, calDuration := 95, calibrated := true }
    cur := { value := v, startTime := 1000, endTime := 1095 } }

/-- The v1 registers of such a state. -/
def withV1 (len count : Nat) (func crc : Byte) (s : State) : State :=
  { s with
    frame :=
      { s.frame with
        v1 := { expectedLen := len, receivedCount := count, funcId := func }, crc1 := crc } }

/-- The v2 counters and checksum of such a state. -/
def withV2 (len count : Nat) (crc : Byte) (s : State) : State :=
  { s with
    frame :=
      { s.frame with v2 := { s.frame.v2 with expectedLen := len, receivedCount := count }, crc2 := crc } }

/-- The pending two-byte fields of such a state. -/
def withPending (func len : Half) (start : Nat) (s : State) : State :=
  { s with
    frame :=
      { s.frame with
        v2 :=
          { s.frame.v2 with funcAcc := func, funcStart := start, lenAcc := len, lenStart := start } } }

/-- A buffer entry. -/
def entry (v : Byte) (a : Nat) : TimestampedByte := { value := v, startTime := a, endTime := a + 95 }

/-- A buffer, and ports of the field decoder, for such a state. -/
def withBuffer (buf : Memory) (d : FieldDesc) (s : State) : State :=
  { s with
    frame := { s.frame with payloadBuffer := buf }
    field := { s.field with desc := d } }

/-- A delivered byte at the front of the input. -/
def fed (v : Byte) (a : Nat) (s : State) : State := { s with input := [.byte (entry v a)] }

/-- Some parts of a next state. -/
def look {α : Type} (f : State → α) : Result → Option α
  | .next s => some (f s)
  | .fault _ => none
  | .refused _ => none

/-- The texts a state has emitted in its step. -/
def texts (s : State) : List String := s.out.map fun l => l.text

/-- The labels a state has emitted in its step, without their kind. -/
def spans (s : State) : List (Nat × Nat × String) :=
  s.out.map fun l => (l.startTime, l.endTime, l.text)

/-- The cursor of a state. -/
def cursor (s : State) : DecoderTag × ParserState := (s.frame.decoder, s.frame.state)

/-! ## Small steps on the rules' examples -/

/-- R122: `@[1000,1095]` gives `calDuration = 95`. -/
theorem test_calibrate :
    look (fun t => t.timing.calDuration) (exec .calibrate (stateAt .none .idle 0#8)) = some 95 := by
  decide

/-- R123: a gap of exactly 300 ticks is within the window, 301 is not. -/
theorem test_timeout :
    look cursor (exec .timeout { stateAt .v1 .v1PayloadSize 0#8 with cur := entry 0#8 1290 }) =
        some (.v1, .v1PayloadSize) ∧
      look cursor (exec .timeout { stateAt .v1 .v1PayloadSize 0#8 with cur := entry 0#8 1291 }) =
        some (.none, .idle) := by decide

/-- R125: `0x24@[1000,1095]` in `IDLE`; R126: `0x00` in `IDLE`. -/
theorem test_idle :
    look spans (exec .idleStart (stateAt .none .idle 0x24#8)) = some [(1000, 1095, "Start")] ∧
      look cursor (exec .idleStart (stateAt .none .idle 0x24#8)) = some (.none, .start) ∧
      look texts (exec .idleSkip (stateAt .none .idle 0#8)) = some [] := by decide

/-- R127, R128: the version byte selects the decoder. -/
theorem test_start_versions :
    look (fun t => (cursor t, texts t)) (exec .startV1 (stateAt .none .start 0x4D#8)) =
        some ((.v1, .headerM), ["MSPv1"]) ∧
      look (fun t => (cursor t, texts t)) (exec .startV2 (stateAt .none .start 0x58#8)) =
        some ((.v2, .headerX), ["MSPv2"]) := by decide

/-- R129: a second marker in `START` is ignored; R131: an illegal pair is reset. -/
theorem test_start_other_and_illegal :
    look (fun t => (cursor t, texts t)) (exec .startOther (stateAt .none .start 0x24#8)) =
        some ((.none, .start), []) ∧
      look (fun t => (cursor t, texts t))
          (exec (.illegal .v2 .v1Payload) (stateAt .v2 .v1Payload 0x24#8)) =
        some ((.none, .idle), []) := by decide

/-- R131: a step from (`V2`, `V1_PAYLOAD`) on the marker emits `Start` and goes on in `START`. -/
theorem test_step_from_an_illegal_pair :
    look (fun t => (cursor t, texts t, t.timing.lastByteTime))
        (step (fed 0x24#8 1000 (stateAt .v2 .v1Payload 0#8))) =
      some ((.none, .start), ["Start"], 1095) := by decide

/-- R140 to R142: `0x3F`, `0x3C`, `0x00` in `HEADER_M`. -/
theorem test_header_m :
    look (fun t => (cursor t, texts t)) (exec .hmFlagsvar (stateAt .v1 .headerM 0x3F#8)) =
        some ((.v1, .v1Flags), ["FLAGGED"]) ∧
      look (fun t => (cursor t, texts t)) (exec .hmKnown (stateAt .v1 .headerM 0x3C#8)) =
        some ((.v1, .v1PayloadSize), ["REQ"]) ∧
      look (fun t => (cursor t, texts t)) (exec .hmInvalid (stateAt .v1 .headerM 0x00#8)) =
        some ((.v1, .v1PayloadSize), ["INVALID"]) := by decide

/-- R143, R144: flags are not folded; `0x02` is the length and the checksum. -/
theorem test_v1_flags_and_size :
    look (fun t => (t.frame.crc1, texts t)) (exec .v1Flags (stateAt .v1 .v1Flags 0x80#8)) =
        some (0x00#8, ["Flags"]) ∧
      look (fun t => (t.frame.v1.expectedLen, t.frame.crc1, texts t))
          (exec .v1Size (stateAt .v1 .v1PayloadSize 0x02#8)) =
        some (2, 0x02#8, ["Length"]) := by decide

/-- R145 to R147: `0x01` after length 2, `0x64` after length 0, `0xFF` after length 7. -/
theorem test_v1_func :
    look (fun t => (cursor t, t.frame.crc1, texts t))
          (exec .v1FuncPayload (withV1 2 0 0#8 0x02#8 (stateAt .v1 .v1PayloadFunc 0x01#8))) =
        some ((.v1, .v1Payload), 0x03#8, ["Func: MSP_API_VERSION"]) ∧
      look (fun t => (cursor t, t.frame.crc1, texts t))
          (exec .v1FuncEmpty (withV1 0 0 0#8 0x00#8 (stateAt .v1 .v1PayloadFunc 0x64#8))) =
        some ((.v1, .v1Checksum), 0x64#8, ["Func: MSP_IDENT"]) ∧
      look (fun t => (cursor t, t.frame.crc1, texts t))
          (exec .v1FuncEncap (withV1 7 0 0#8 0x07#8 (stateAt .v1 .v1PayloadFunc 0xFF#8))) =
        some ((.v1, .v2Flags), 0xF8#8, ["Func: MSP_V2_FRAME"]) := by decide

/-- R148: `0xAA` with counts 0 of 2. -/
theorem test_v1_payload_more :
    look (fun t => (t.frame.crc1, t.frame.v1.receivedCount, t.frame.payloadBuffer.length, texts t))
        (exec .v1PayloadMore (withV1 2 0 0x01#8 0x03#8 (stateAt .v1 .v1Payload 0xAA#8))) =
      some (0xA9#8, 1, 1, []) := by decide

/-- R149: `0xBB` with counts 1 of 2, function `0x01`. -/
theorem test_v1_payload_last :
    look (fun t => (t.frame.crc1, spans t))
        (exec .v1PayloadLast
          (withBuffer [entry 0xAA#8 895] { width := 0, interp := .rawInteger }
            (withV1 2 1 0x01#8 0xA9#8 (stateAt .v1 .v1Payload 0xBB#8)))) =
      some (0x12#8, [(895, 990, "170"), (1000, 1095, "187")]) := by decide

/-- R150, R151: `0x12` and `0x00` against `crc1 = 0x12`. -/
theorem test_v1_checksum :
    look (fun t => (cursor t, texts t))
          (exec .v1ChecksumOk (withV1 2 2 0x01#8 0x12#8 (stateAt .v1 .v1Checksum 0x12#8))) =
        some ((.none, .idle), ["CRC"]) ∧
      look (fun t => (cursor t, texts t))
          (exec .v1ChecksumErr (withV1 2 2 0x01#8 0x12#8 (stateAt .v1 .v1Checksum 0x00#8))) =
        some ((.none, .idle), ["CRC ERROR"]) := by decide

/-- R160, R161: `0x3E` and `0x00` in `HEADER_X`. -/
theorem test_header_x :
    look (fun t => (cursor t, texts t)) (exec .hxKnown (stateAt .v2 .headerX 0x3E#8)) =
        some ((.v2, .v2Flags), ["RESP"]) ∧
      look (fun t => (cursor t, texts t)) (exec .hxInvalid (stateAt .v2 .headerX 0x00#8)) =
        some ((.v2, .v2Flags), ["INVALID"]) := by decide

/-- R101, R162: a flags byte `0x02` restarts the checksum and gives `0x7F`. -/
theorem test_v2_flags :
    look (fun t => (t.frame.crc2, texts t))
        (exec .v2Flags (withV2 0 0 0x55#8 (stateAt .v2 .v2Flags 0x02#8))) =
      some (0x7F#8, ["Flags"]) := by decide

/-- R163, R164: `0x12`, then `0x34` with the pending high byte. -/
theorem test_v2_func :
    look (fun t => (t.frame.v2.funcAcc, t.frame.v2.funcStart, texts t))
          (exec .v2Func1 (stateAt .v2 .v2Func1 0x12#8)) =
        some (0x1200#16, 1000, []) ∧
      look spans (exec .v2Func2 (withPending 0x1200#16 0#16 895 (stateAt .v2 .v2Func2 0x34#8))) =
        some [(895, 1095, "Func: MSP2_BIG")] := by decide

/-- R165 to R167: `0x01` as a high byte; `0x01` and `0x00` as low bytes after `0x00`. -/
theorem test_v2_size :
    look (fun t => (t.frame.v2.lenAcc, t.frame.v2.lenStart, texts t))
          (exec .v2Size1 (stateAt .v2 .v2Size1 0x01#8)) =
        some (0x0100#16, 1000, []) ∧
      look (fun t => (t.frame.v2.expectedLen, spans t))
          (exec .v2Size2Payload (withPending 0#16 0#16 895 (stateAt .v2 .v2Size2 0x01#8))) =
        some (1, [(895, 1095, "Length 1")]) ∧
      look (fun t => (cursor t, texts t))
          (exec .v2Size2Empty (withPending 0#16 0#16 895 (stateAt .v2 .v2Size2 0x00#8))) =
        some ((.v2, .v2Checksum), ["Length 0"]) := by decide

/-- R168: the first of three payload bytes; R169: `0x7F` with counts 0 of 1, `crc2 = 0x06`. -/
theorem test_v2_payload :
    look (fun t => (cursor t, t.frame.v2.receivedCount, texts t))
          (exec .v2PayloadMore (withV2 3 0 0#8 (stateAt .v2 .v2Payload 0x11#8))) =
        some ((.v2, .v2Payload), 1, ["data[0]"]) ∧
      look (fun t => (cursor t, t.frame.crc2, texts t))
          (exec .v2PayloadLast (withV2 1 0 0x06#8 (stateAt .v2 .v2Payload 0x7F#8))) =
        some ((.v2, .v2Checksum), 0x97#8, ["data[0]"]) := by decide

/-- R170, R171: `0x97` and `0x00` against `crc2 = 0x97`. -/
theorem test_v2_checksum :
    look (fun t => (cursor t, texts t))
          (exec .v2ChecksumOk (withV2 1 1 0x97#8 (stateAt .v2 .v2Checksum 0x97#8))) =
        some ((.none, .idle), ["CRC"]) ∧
      look (fun t => (cursor t, texts t))
          (exec .v2ChecksumErr (withV2 1 1 0x97#8 (stateAt .v2 .v2Checksum 0x00#8))) =
        some ((.none, .idle), ["CRC ERROR"]) := by decide

/-- R181: `0x00` with counts 0 of 7; with counts 0 of 1 the outer frame ends at once. -/
theorem test_e_flags :
    look (fun t => (cursor t, t.frame.crc1, t.frame.crc2, t.frame.v1.receivedCount, texts t))
          (exec .eFlags (withV1 7 0 0xFF#8 0xF8#8 (stateAt .v1 .v2Flags 0x00#8))) =
        some ((.v1, .v2Func1), 0xF8#8, 0x00#8, 1, ["Flags"]) ∧
      look cursor (exec .eFlags (withV1 1 0 0xFF#8 0xFE#8 (stateAt .v1 .v2Flags 0x00#8))) =
        some (.v1, .v1Checksum) := by decide

/-- R182 to R184: the inner function id and the high byte of the inner length. -/
theorem test_e_header :
    look (fun t => (t.frame.v2.funcAcc, t.frame.v2.funcStart, texts t))
          (exec .eFunc1 (withV1 7 1 0xFF#8 0xF8#8 (stateAt .v1 .v2Func1 0x00#8))) =
        some (0x0000#16, 1000, []) ∧
      look spans
          (exec .eFunc2
            (withPending 0#16 0#16 895 (withV1 7 2 0xFF#8 0xF8#8 (stateAt .v1 .v2Func2 0x02#8)))) =
        some [(895, 1095, "Func: MSP2_TEST")] ∧
      look (fun t => (t.frame.v2.lenAcc, t.frame.v2.lenStart, texts t))
          (exec .eSize1 (withV1 7 3 0xFF#8 0xFA#8 (stateAt .v1 .v2Size1 0x00#8))) =
        some (0x0000#16, 1000, []) := by decide

/-- R185: the inner length 1 leaves the outer length 7. -/
theorem test_e_size2 :
    look (fun t => (t.frame.v2.expectedLen, t.frame.v1.expectedLen, t.frame.v1.receivedCount, texts t))
        (exec .eSize2
          (withPending 0#16 0#16 895 (withV1 7 4 0xFF#8 0xFA#8 (stateAt .v1 .v2Size2 0x01#8)))) =
      some (1, 7, 5, ["Length 1"]) := by decide

/-- R186: `0x7F` with inner counts 0 of 1 is appended once and counted twice. -/
theorem test_e_payload :
    look
        (fun t =>
          (cursor t, t.frame.v1.receivedCount, t.frame.v2.receivedCount,
            t.frame.payloadBuffer.length, texts t))
        (exec .ePayload
          (withV2 1 0 0x06#8 (withV1 7 5 0xFF#8 0xFB#8 (stateAt .v1 .v2Payload 0x7F#8)))) =
      some ((.v1, .v2Checksum), 6, 1, 1, ["data[0]"]) := by decide

/-- R187: `0x97` with counts 6 of 7; a mismatch with outer bytes left goes to `V1_PAYLOAD`. -/
theorem test_e_checksum :
    look (fun t => (cursor t, t.frame.crc1, texts t))
          (exec .eChecksum
            (withV2 1 1 0x97#8 (withV1 7 6 0xFF#8 0x84#8 (stateAt .v1 .v2Checksum 0x97#8)))) =
        some ((.v1, .v1Checksum), 0x13#8, ["CRC"]) ∧
      look (fun t => (cursor t, texts t))
          (exec .eChecksum
            (withV2 1 1 0x97#8 (withV1 9 6 0xFF#8 0x84#8 (stateAt .v1 .v2Checksum 0x00#8)))) =
        some ((.v1, .v1Payload), ["CRC ERROR"]) := by decide

/-- R100: `Xor8(0x03, 0xAA) = 0xA9`; R101: `Crc8(0x00, 0x02) = 0x7F`; R104: with `POLY = 0xD4`,
`Crc8(0x00, 0x80) = Crc8(0x00, 0x6A) = 0x3C`. -/
theorem test_engines :
    look (fun t => t.fnResult) (exec (.xor8 0x03#8 0xAA#8) (stateAt .none .idle 0#8)) = some 0xA9#8 ∧
      look (fun t => t.fnResult) (exec (.crc8 0x00#8 0x02#8) (stateAt .none .idle 0#8)) =
        some 0x7F#8 ∧
      crc8 0xD4#8 0x00#8 0x80#8 = 0x3C#8 ∧ crc8 0xD4#8 0x00#8 0x6A#8 = 0x3C#8 := by decide

/-- The fixture layout of function `0x64`. -/
def layout : Layout :=
  [{ width := 1, interp := .rawInteger },
    { width := 1, interp := .indexLookup ["TRI", "QUADP", "QUADX", "BI"] },
    { width := 0, interp := .rawInteger },
    { width := 2, interp := .valueLookup [(0x0100, "CAP_A"), (0x0200, "CAP_B")] },
    { width := 1, interp := .fixedLabel "RSVD" }]

/-- R200: bytes `F0 02 01 00 55`; R205: only `F0 02 01`, the short field is the byte `01`. -/
theorem test_fd_run :
    (decodeFields (some layout)
            [entry 0xF0#8 0, entry 0x02#8 105, entry 0x01#8 210, entry 0x00#8 315, entry 0x55#8 420]).map
          (fun l => (l.startTime, l.endTime, l.text)) =
        [(0, 95, "240"), (105, 200, "QUADX"), (210, 410, "CAP_A"), (420, 515, "RSVD")] ∧
      (decodeFields (some layout) [entry 0xF0#8 0, entry 0x02#8 105, entry 0x01#8 210]).map
          (fun l => l.text) =
        ["240", "QUADX", "ERROR"] := by decide

/-- R200: an empty layout gives no label; R202: no layout gives one over the whole buffer. -/
theorem test_fd_run_and_opaque :
    look (fun t => t.field.labels.length)
          (exec .fdRun
            (withBuffer [entry 1#8 0, entry 2#8 105] { width := 0, interp := .rawInteger }
              (withV1 2 2 0x01#8 0#8 (stateAt .v1 .v1Payload 0#8)))) =
        some 2 ∧
      decodeFields (some []) [entry 1#8 0] = [] ∧
      look (fun t => t.field.labels)
          (exec .fdOpaque
            (withBuffer [entry 1#8 2000, entry 2#8 2105, entry 3#8 2210]
              { width := 0, interp := .rawInteger } (stateAt .v1 .v1Payload 0#8))) =
        some [{ startTime := 2000, endTime := 2305, kind := .info, text := "PAYLOAD" }] := by decide

/-- R204: `w = 2` over `01 00` is 256; R207: `(-1, Text)` over `48 69 21` takes three bytes; R206. -/
theorem test_fd_widths :
    look (fun t => (t.field.pos, t.field.value))
          (exec .fdFixedw
            (withBuffer [entry 1#8 0, entry 0#8 105, entry 9#8 210] { width := 2, interp := .rawInteger }
              (stateAt .v1 .v1Payload 0#8))) =
        some (2, 256) ∧
      look (fun t => t.field.chunk.length)
          (exec .fdRest
            (withBuffer [entry 0x48#8 0, entry 0x69#8 105, entry 0x21#8 210]
              { width := -1, interp := .text } (stateAt .v1 .v1Payload 0#8))) =
        some 3 ∧
      look (fun t => t.field.pos) (exec .fdSkip (stateAt .v1 .v1Payload 0#8)) = some 0 := by decide

/-- A state whose ports hold a descriptor of an interpretation, and its bytes. -/
def reading (i : Interpretation) (chunk : List TimestampedByte) : State :=
  let s := stateAt .v1 .v1Payload 0#8
  { s with
    field :=
      { s.field with
        desc := { width := -1, interp := i }, chunk := chunk, value := bigEndian chunk } }

/-- R208: `48 69 21`; R209: `RSVD`; R212: byte `AA`. -/
theorem test_fd_text_fixed_raw :
    look (fun t => t.field.text)
          (exec .fdIText (reading .text [entry 0x48#8 0, entry 0x69#8 105, entry 0x21#8 210])) =
        some "STR: Hi!" ∧
      look (fun t => t.field.text) (exec .fdIFixed (reading (.fixedLabel "RSVD") [entry 0x55#8 0])) =
        some "RSVD" ∧
      look (fun t => t.field.text) (exec .fdIRaw (reading .rawInteger [entry 0xAA#8 0])) =
        some "170" := by decide

/-- R210: value 2 of four, and value 4; R211: bytes `01 00`, and `03 00`. -/
theorem test_fd_lookups :
    look (fun t => t.field.text)
          (exec .fdIIndex (reading (.indexLookup ["TRI", "QUADP", "QUADX", "BI"]) [entry 2#8 0])) =
        some "QUADX" ∧
      look (fun t => t.field.text)
          (exec .fdIIndex (reading (.indexLookup ["TRI", "QUADP", "QUADX", "BI"]) [entry 4#8 0])) =
        some "ERROR" ∧
      look (fun t => t.field.text)
          (exec .fdIMap (reading (.valueLookup [(0x0100, "CAP_A")]) [entry 1#8 0, entry 0#8 105])) =
        some "CAP_A" ∧
      look (fun t => t.field.text)
          (exec .fdIMap (reading (.valueLookup [(0x0100, "CAP_A")]) [entry 3#8 0, entry 0#8 105])) =
        some "ERROR" := by decide

/-! ## Witnesses: states and operands that meet the hypotheses of the statements -/

/-- In a v1 payload, one byte of two counted. -/
def midV1 : State :=
  withBuffer [entry 0xAA#8 895] { width := 1, interp := .rawInteger }
    (withV1 2 1 0x01#8 0xA9#8 (stateAt .v1 .v1Payload 0xBB#8))

/-- In a standalone v2 payload, none of one byte counted. -/
def midV2 : State := withV2 1 0 0x06#8 (stateAt .v2 .v2Payload 0x7F#8)

/-- In the inner payload of an encapsulated frame. -/
def midEncap : State :=
  withV2 1 0 0x06#8 (withV1 7 5 0xFF#8 0xFB#8 (stateAt .v1 .v2Payload 0x7F#8))

theorem midV1_inv : SessionInv midV1 := by constructor <;> decide

theorem midEncap_inv : SessionInv midEncap := by constructor <;> decide

theorem witness_V1PayloadByteInTheMiddle :
    midV1.frame.v1.receivedCount < midV1.frame.v1.expectedLen ∧ chooses midV1 .v1PayloadLast := by
  unfold chooses; decide

theorem witness_HeaderM_name :
    Cfg.wf cfg = true ∧
      lookupTransportType (stateAt .v1 .headerM 0x3F#8).cfg (stateAt .v1 .headerM 0x3F#8).cur.value =
        some "FLAGGED" := by decide

theorem witness_HeaderX_name :
    lookupTransportType (stateAt .v2 .headerX 0x3E#8).cfg (stateAt .v2 .headerX 0x3E#8).cur.value =
      some "RESP" := by decide

theorem witness_FieldRows_width : 0 < midV1.field.desc.width := by decide

/-- The port's cursor exactly at the end, and past it (log entry 21). -/
theorem witness_FieldRows_cursor :
    let atEnd := { midV1 with field := { midV1.field with pos := 1 } }
    let past := { midV1 with field := { midV1.field with pos := 5 } }
    look (fun t => (t.field.pos, t.field.chunk, t.field.value)) (exec .fdFixedw atEnd) =
        some (1, [], 0) ∧
      look (fun t => (t.field.pos, t.field.chunk, t.field.value)) (exec .fdRest past) =
        some (5, [], 0) := by decide

theorem witness_InterpretationRows :
    (reading (.fixedLabel "RSVD") []).field.desc.interp = .fixedLabel "RSVD" ∧
      (reading (.indexLookup ["TRI"]) []).field.desc.interp = .indexLookup ["TRI"] ∧
      (reading (.valueLookup [(1, "A")]) []).field.desc.interp = .valueLookup [(1, "A")] := by decide

theorem witness_ChecksumEngines : [1#8, 2#8].Perm [2#8, 1#8] := by decide

theorem witness_OneChangedByte :
    (0xD5#8 : Byte).getLsbD 0 = true ∧ (0x01#8 : Byte) ≠ 0x02#8 := by decide

/-- A field that ends exactly at the end of the buffer. -/
theorem witness_FieldValueIsBigEndian :
    let d : FieldDesc := { width := 2, interp := .rawInteger }
    0 < d.width ∧ 1 + d.width.toNat ≤ [entry 7#8 0, entry 1#8 105, entry 0#8 210].length := by decide

theorem witness_FixedAndMappedText :
    [((1 : Nat), "A")].lookup 1 = some "A" ∧ [((1 : Nat), "A")].lookup 2 = none := by decide

theorem witness_TwoByteFields :
    (∃ t, exec .v2Func1 (stateAt .v2 .v2Func1 0x12#8) = .next t) ∧
      (∃ t, exec .v2Size1 (stateAt .v2 .v2Size1 0xFF#8) = .next t) ∧
      (∃ t, exec .eFunc1 (stateAt .v1 .v2Func1 0x12#8) = .next t) ∧
      ∃ t, exec .eSize1 (stateAt .v1 .v2Size1 0xFF#8) = .next t :=
  ⟨⟨_, rfl⟩, ⟨_, rfl⟩, ⟨_, rfl⟩, ⟨_, rfl⟩⟩

theorem witness_StepRuns_legal :
    let s := fed 0xBB#8 1000 midV1
    let u := prepared (entry 0xBB#8 1000) [] s
    s.input = [.byte (entry 0xBB#8 1000)] ∧ legalPair u.frame.decoder u.frame.state = true ∧
      decode (operationWord u) = .ok (.v1PayloadLast, []) ∧ ∃ t, exec .v1PayloadLast u = .next t :=
  ⟨rfl, by decide, by decide, _, rfl⟩

theorem witness_StepRuns_illegal :
    let s := fed 0x24#8 1000 (stateAt .v2 .v1Payload 0#8)
    let u := prepared (entry 0x24#8 1000) [] s
    s.input = [.byte (entry 0x24#8 1000)] ∧ legalPair u.frame.decoder u.frame.state = false ∧
      decode (operationWord { u with frame := Frame.reset }) = .ok (.idleStart, []) ∧
        ∃ t, exec .idleStart { u with frame := Frame.reset } = .next t :=
  ⟨rfl, by decide, by decide, _, rfl⟩

theorem witness_StepWithoutAByte :
    midV1.input = [] ∧ { midV1 with input := [.reset] }.input = [.reset] := by decide

theorem witness_SessionLaws :
    SessionInv (fed 0xBB#8 1000 midV1) ∧ ∃ t, step (fed 0xBB#8 1000 midV1) = .next t :=
  ⟨by constructor <;> decide, _, rfl⟩

theorem witness_BufferNeverOverflows : SessionInv midV1 ∧ midV1.frame.decoder = .v1 :=
  ⟨midV1_inv, rfl⟩

theorem witness_OperationMap : Cfg.wf midV1.cfg = true ∧ rowCondition .v1PayloadLast midV1 :=
  ⟨by decide, ⟨rfl, rfl⟩, rfl⟩

theorem witness_NextCursor :
    rowCondition .v1PayloadLast midV1 ∧ ∃ t, exec .v1PayloadLast midV1 = .next t :=
  ⟨⟨⟨rfl, rfl⟩, rfl⟩, _, rfl⟩

theorem witness_NextCursor_encapsulated :
    rowCondition .ePayload midEncap ∧ ∃ t, exec .ePayload midEncap = .next t :=
  ⟨⟨rfl, rfl⟩, _, rfl⟩

theorem witness_DecodeInvertsEncode :
    Instr.wf (.illegal .v2 .v1Payload) = true ∧ Instr.wf (.crc8 0x5A#8 0xA5#8) = true := by decide

theorem witness_EncodeInvertsDecode :
    decode [0xD5#8, 0x00#8] = .ok (.v1Size, []) ∧
      decode [0x7F#8, 0x21#8, 1#8, 2#8, 3#8] = .ok (.crc8 1#8 2#8, [3#8]) := by decide

theorem witness_Registers :
    Register.v1ExpectedLen ∉ writes .v1PayloadMore ∧ Register.fnResult ∉ writes .v1PayloadMore ∧
      ∃ t, exec .v1PayloadMore midV1 = .next t :=
  ⟨by decide, by decide, _, rfl⟩

theorem witness_Buffer :
    (appends .v1PayloadMore = true ∧ ∃ t, exec .v1PayloadMore midV1 = .next t) ∧
      (clears .v1Size = true ∧ ∃ t, exec .v1Size midV1 = .next t) ∧
      (∃ t, exec .timeout midV1 = .next t) ∧
      (appends .eFlags = false ∧ clears .eFlags = false ∧ ∃ t, exec .eFlags midEncap = .next t) :=
  ⟨⟨rfl, _, rfl⟩, ⟨rfl, _, rfl⟩, ⟨_, rfl⟩, ⟨rfl, rfl, _, rfl⟩⟩

/-- The first byte of a Session, and a later one. -/
theorem witness_Calibration :
    (fed 0x24#8 1000 (State.ofCfg cfg)).input = [.byte (entry 0x24#8 1000)] ∧
      (∃ t, step (fed 0x24#8 1000 (State.ofCfg cfg)) = .next t) ∧
      ∃ t, step (fed 0x24#8 1000 midV1) = .next t :=
  ⟨rfl, ⟨_, rfl⟩, _, rfl⟩

theorem witness_Configuration : ∃ t, step (fed 0x24#8 1000 midV1) = .next t := ⟨_, rfl⟩

/-- A gap of 301 ticks, one above the window, and a byte that is or is not the marker. -/
theorem witness_Silence :
    withinWindow (fed 0x24#8 1291 midV1) (entry 0x24#8 1291) = false ∧
      (entry 0x24#8 1291).value = cfg.startMarker ∧ (entry 0xBB#8 1291).value ≠ cfg.startMarker := by
  decide

/-- A gap of 300 ticks, the end of the window, and the marker as a payload byte. -/
theorem witness_MarkerInsideAFrame :
    let s := fed 0x24#8 1290 midV1
    s.input = [.byte (entry 0x24#8 1290)] ∧ legalPair s.frame.decoder s.frame.state = true ∧
      s.frame.state ≠ .idle ∧ withinWindow s (entry 0x24#8 1290) = true ∧ ∃ t, step s = .next t :=
  ⟨rfl, rfl, by decide, rfl, _, rfl⟩

theorem witness_FrameReset :
    (∃ t, exec .v1ChecksumErr midV1 = .next t) ∧
      idleExceeded { midV1 with cur := entry 0#8 1291 } = true ∧
      idleExceeded { midV1 with cur := entry 0#8 1290 } = false ∧
      (∃ t, exec .idleStart midV1 = .next t) ∧ (∃ t, exec .eChecksum midEncap = .next t) ∧
      SessionInv (stateAt .none .idle 0#8) ∧
      ∃ t, exec .idleSkip (stateAt .none .idle 0#8) = .next t ∧ t.frame.state = .idle :=
  ⟨⟨_, rfl⟩, by decide, by decide, ⟨_, rfl⟩, ⟨_, rfl⟩, by constructor <;> decide, _, rfl, rfl⟩

theorem witness_StandaloneV2 :
    agreeButV1 (fed 0x7F#8 1000 midV2) (withV1 9 8 7#8 6#8 (fed 0x7F#8 1000 midV2)) ∧
      (fed 0x7F#8 1000 midV2).frame.decoder = .v2 ∧ ∃ t, step (fed 0x7F#8 1000 midV2) = .next t :=
  ⟨rfl, rfl, _, rfl⟩

theorem witness_PlainV1 :
    agreeButV2 (fed 0xBB#8 1000 midV1) (withV2 9 8 7#8 (fed 0xBB#8 1000 midV1)) ∧
      (fed 0xBB#8 1000 midV1).frame.decoder = .v1 ∧
      isV1State (fed 0xBB#8 1000 midV1).frame.state = true ∧
      ∃ t, step (fed 0xBB#8 1000 midV1) = .next t :=
  ⟨rfl, rfl, rfl, _, rfl⟩

theorem witness_Labels :
    (fed 0xBB#8 1000 midV1).input = [.byte (entry 0xBB#8 1000)] ∧
      look (fun t => t.out.length) (step (fed 0xBB#8 1000 midV1)) = some 2 := by decide

theorem witness_Errors :
    conditionsOf .hmInvalid (stateAt .v1 .headerM 0#8) = [.badTransport] ∧
      conditionsOf .startOther (stateAt .none .start 0#8) = [.badVersion] ∧
      conditionsOf .eChecksum midEncap = [.crcMismatch] ∧
      conditionsOf .v2Func2 (stateAt .v2 .v2Func2 0#8) = [.unknownFunction] ∧
      conditionsOf .timeout { midV1 with cur := entry 0#8 1291 } = [.idleTimeout] ∧
      ∃ t, exec .eChecksum midEncap = .next t :=
  ⟨by decide, by decide, by decide, by decide, by decide, _, rfl⟩

/-- A value past the end of a list, found by the last payload byte. -/
theorem witness_Errors_enumRange :
    let c := { cfg with fieldLayouts := [(0x01, [{ width := 1, interp := .indexLookup ["A"] }])] }
    let s := { withV1 1 0 0x01#8 0x00#8 (stateAt .v1 .v1Payload 0x04#8) with cfg := c }
    conditionsOf .v1PayloadLast s = [.enumRange] ∧
      look texts (exec .v1PayloadLast s) = some ["ERROR"] := by decide

/-- Rows of every kind that the statement claims to be chosen: sharing a selector, encapsulated, illegal,
and of the pre-step. -/
theorem witness_Placed :
    (Instr.wf .v1PayloadLast = true ∧ rowNext .v1PayloadLast State.reset ≠ none) ∧
      (Instr.wf .startOther = true ∧ rowNext .startOther State.reset ≠ none) ∧
      (Instr.wf .eChecksum = true ∧ rowNext .eChecksum State.reset ≠ none) ∧
      (Instr.wf (.illegal .reserved .idle) = true ∧
        rowNext (.illegal .reserved .idle) State.reset ≠ none) ∧
      Instr.wf .calibrate = true ∧ Instr.wf .timeout = true := by decide

/-- The next step after placing does run the operation: one row of a shared selector, one encapsulated,
and one of the pre-step. -/
theorem test_placed_operations_run :
    look texts (step (placeOp .startOther State.reset)) = some [] ∧
      look (fun t => (t.frame.decoder, texts t)) (step (placeOp .eChecksum State.reset)) =
        some (.v1, ["CRC"]) ∧
      look (fun t => t.timing.calibrated) (step (placeOp .calibrate State.reset)) = some true := by
  decide

end Sys2Proof.Tests
end

section
/-! PROOFS. The start marker outside `IDLE` (O52): every operation, and the whole step in a legal cursor
that is not in `IDLE`, commutes with a change of the configured marker. -/

namespace Sys2Proof.Proofs.Marker

open Sys2Proof Sys2Proof.Machine

/-- The state under another start marker, all else the same. -/
def withMarker (m : Byte) (s : State) : State := { s with cfg := { s.cfg with startMarker := m } }

@[simp] theorem withMarker_frame (m : Byte) (s : State) : (withMarker m s).frame = s.frame := rfl
@[simp] theorem withMarker_cur (m : Byte) (s : State) : (withMarker m s).cur = s.cur := rfl

/-! ## The operations -/

/-- A change of the state that neither reads nor writes the start marker. -/
def MarkerFree (f : State → State) : Prop := ∀ m s, f (withMarker m s) = withMarker m (f s)

theorem takeV2Flags_markerFree : MarkerFree takeV2Flags := fun _ _ => rfl
theorem takeV2Func1_markerFree : MarkerFree takeV2Func1 := fun _ _ => rfl
theorem takeV2Func2_markerFree : MarkerFree takeV2Func2 := fun _ _ => rfl
theorem takeV2Size1_markerFree : MarkerFree takeV2Size1 := fun _ _ => rfl
theorem takeV2Size2Payload_markerFree : MarkerFree takeV2Size2Payload := fun _ _ => rfl
theorem takeV2Size2Empty_markerFree : MarkerFree takeV2Size2Empty := fun _ _ => rfl
theorem takeV2Payload_markerFree : MarkerFree takeV2Payload := fun _ _ => rfl
theorem takeV2ChecksumOk_markerFree : MarkerFree takeV2ChecksumOk := fun _ _ => rfl
theorem takeV2ChecksumErr_markerFree : MarkerFree takeV2ChecksumErr := fun _ _ => rfl
theorem frameReset_markerFree : MarkerFree frameReset := fun _ _ => rfl
theorem id_markerFree : MarkerFree id := fun _ _ => rfl

/-- The wrapper of R180 adds no use of the marker to its inner operation's. -/
theorem encapsulate_markerFree {inner : State → State} (free : MarkerFree inner) (n : InnerNext) :
    MarkerFree (encapsulate inner n) := by
  intro m s
  have folded : bumpV1 (foldCrc1 (withMarker m s)) = withMarker m (bumpV1 (foldCrc1 s)) := rfl
  rw [encapsulate_eq, encapsulate_eq, folded, free]
  rfl

/-- An operation that is one marker-free change. -/
theorem next_withMarker {f : State → State} {m : Byte} {s t : State} (free : MarkerFree f)
    (h : (.next (f s) : Result) = .next t) :
    (.next (f (withMarker m s)) : Result) = .next (withMarker m t) := by
  cases h
  rw [free]

/-- An operation that chooses between two marker-free changes. -/
theorem ite_next_withMarker {c : Prop} [Decidable c] {f g : State → State} {m : Byte} {s t : State}
    (freeF : MarkerFree f) (freeG : MarkerFree g)
    (h : (if c then .next (f s) else .next (g s) : Result) = .next t) :
    (if c then .next (f (withMarker m s)) else .next (g (withMarker m s)) : Result) =
      .next (withMarker m t) := by
  by_cases hc : c
  · rw [if_pos hc] at h ⊢
    exact next_withMarker freeF h
  · rw [if_neg hc] at h ⊢
    exact next_withMarker freeG h

/-- No operation reads the start marker: under another one it answers the same state but for the marker
(R80: only the choice between the rows of `IDLE` asks `isStart`). -/
theorem exec_withMarker {i : Instr} {s t : State} (m : Byte) (h : exec i s = .next t) :
    exec i (withMarker m s) = .next (withMarker m t) := by
  cases i with
  | timeout => exact ite_next_withMarker frameReset_markerFree id_markerFree h
  | eFlags => exact next_withMarker (encapsulate_markerFree takeV2Flags_markerFree _) h
  | eFunc1 => exact next_withMarker (encapsulate_markerFree takeV2Func1_markerFree _) h
  | eFunc2 => exact next_withMarker (encapsulate_markerFree takeV2Func2_markerFree _) h
  | eSize1 => exact next_withMarker (encapsulate_markerFree takeV2Size1_markerFree _) h
  | eSize2 =>
    exact ite_next_withMarker (encapsulate_markerFree takeV2Size2Empty_markerFree _)
      (encapsulate_markerFree takeV2Size2Payload_markerFree _) h
  | ePayload =>
    exact ite_next_withMarker (encapsulate_markerFree takeV2Payload_markerFree _)
      (encapsulate_markerFree takeV2Payload_markerFree _) h
  | eChecksum =>
    exact ite_next_withMarker (encapsulate_markerFree takeV2ChecksumOk_markerFree _)
      (encapsulate_markerFree takeV2ChecksumErr_markerFree _) h
  | _ => cases h; rfl

/-! ## The choice of the operation -/

/-- Outside `IDLE` no row's condition asks for the marker (R80, R81). -/
theorem chosenRow_withMarker {s : State} (m : Byte) (notIdle : s.frame.state ≠ .idle) :
    chosenRow (withMarker m s) = chosenRow s := by
  simp only [chosenRow, withMarker_frame, withMarker_cur]
  split
  case h_1 idle => exact absurd idle notIdle
  all_goals rfl

/-- Outside `IDLE` the same operation is chosen, and it commutes with the change of marker. -/
theorem runOperation_withMarker {s t : State} (m : Byte) (notIdle : s.frame.state ≠ .idle)
    (h : runOperation s = .next t) : runOperation (withMarker m s) = .next (withMarker m t) := by
  have sameWord : operationWord (withMarker m s) = operationWord s := by
    rw [operationWord, chosenRow_withMarker m notIdle]; rfl
  unfold runOperation at h ⊢
  rw [sameWord]
  split at h
  · exact exec_withMarker m h
  · cases h

/-! ## The parts of a step -/

/-- Within the window the pre-step leaves the frame alone: it calibrates, or finds no timeout
(R122, R123). -/
theorem preOperation_frame_of_withinWindow {s a : State} {b : TimestampedByte}
    {rest : List HostInput} (within : withinWindow s b = true)
    (h : exec (preOperation (latch b rest s)) (latch b rest s) = .next a) : a.frame = s.frame := by
  cases calibrated : s.timing.calibrated with
  | false =>
    have pre : preOperation (latch b rest s) = .calibrate := by simp [preOperation, calibrated]
    rw [pre] at h
    cases h
    rfl
  | true =>
    have pre : preOperation (latch b rest s) = .timeout := by simp [preOperation, calibrated]
    have noTimeout : idleExceeded (latch b rest s) = false := by
      simpa [Bool.eq_false_iff, idleExceeded_iff, withinWindow, calibrated] using within
    rw [pre] at h
    simp only [exec, execTimeout, noTimeout] at h
    cases h
    rfl

/-- The pre-step's choice reads the timing registers only. -/
theorem preOperation_withMarker (m : Byte) (s : State) :
    preOperation (withMarker m s) = preOperation s := rfl

/-- A legal cursor is not reset (R120). -/
theorem legalise_of_legal {s : State} (legal : legalPair s.frame.decoder s.frame.state = true) :
    legalise s = .next s := by
  simp [legalise, legal]

/-- A byte within the window, taken in a legal cursor outside `IDLE`: its step commutes with the change
of marker. -/
theorem byteStep_latch_withMarker {s t : State} {b : TimestampedByte} {rest : List HostInput}
    (m : Byte) (legal : legalPair s.frame.decoder s.frame.state = true)
    (notIdle : s.frame.state ≠ .idle) (within : withinWindow s b = true)
    (h : byteStep (latch b rest s) = .next t) :
    byteStep (withMarker m (latch b rest s)) = .next (withMarker m t) := by
  obtain ⟨a, a', c, pre, kept, ran, rfl⟩ := byteStep_eq_next h
  have frame_eq : a.frame = s.frame := preOperation_frame_of_withinWindow within pre
  rw [← frame_eq] at legal notIdle
  obtain rfl : a = a' := by simpa [legalise_of_legal legal] using kept
  rw [byteStep, preOperation_withMarker, exec_withMarker m pre, andThen_next,
    legalise_of_legal (s := withMarker m a) legal, andThen_next,
    runOperation_withMarker m notIdle ran]
  rfl

/-- Settles O52: outside `IDLE` the start marker is data. -/
theorem markerInsideAFrameIsData : Obligations.MarkerInsideAFrameIsData := by
  intro s t b rest m delivered legal notIdle within h
  rw [step_of_byte delivered] at h
  have delivered' : (withMarker m s).input = .byte b :: rest := delivered
  exact (step_of_byte delivered').trans (byteStep_latch_withMarker m legal notIdle within h)

end Sys2Proof.Proofs.Marker
end

section
/-! PROOFS. What a byte's step runs: the three answers of the pre-step, the reset of an illegal
selector, and the operation of the selector's group, whose condition holds. -/

namespace Sys2Proof.Proofs.StepParts

open Sys2Proof Sys2Proof.Machine

/-! ## The pre-step (R122, R123) -/

/-- The state after `CALIBRATE`. -/
def calibrated (s : State) : State :=
  { s with
    timing :=
      { s.timing with calDuration := s.cur.endTime - s.cur.startTime, calibrated := true } }

theorem exec_preOperation_of_uncalibrated {s : State} (h : s.timing.calibrated = false) :
    exec (preOperation s) s = .next (calibrated s) := by
  simp only [preOperation, h]; rfl

theorem exec_preOperation_of_calibrated {s : State} (h : s.timing.calibrated = true) :
    exec (preOperation s) s = .next (if idleExceeded s then frameReset s else s) := by
  simp only [preOperation, h, if_true, exec, execTimeout]
  split <;> rfl

/-- The pre-step's three answers: calibration, the reset of a frame that timed out, nothing. -/
theorem exec_preOperation_eq_next {s t : State} (h : exec (preOperation s) s = .next t) :
    s.timing.calibrated = false ∧ t = calibrated s ∨
      s.timing.calibrated = true ∧ (t = frameReset s ∨ t = s) := by
  cases first : s.timing.calibrated with
  | false =>
    rw [exec_preOperation_of_uncalibrated first] at h
    cases h
    exact .inl ⟨rfl, rfl⟩
  | true =>
    rw [exec_preOperation_of_calibrated first] at h
    cases h
    exact .inr ⟨rfl, by split <;> simp⟩

/-! ## The operation that is run (R79 to R81) -/

theorem rowAt_eq_ok {group : List Instr} {k : Nat} {rest rest' : List Byte} {i : Instr} :
    rowAt group k rest = .ok (i, rest') ↔ group[k]? = some i ∧ rest = rest' := by
  unfold rowAt
  cases group[k]? <;> simp

/-- The chosen operation is the row of the selector's group that the condition logic names. -/
theorem chooses_iff {s : State} {i : Instr} :
    chooses s i ↔ (stepGroup s.frame.decoder s.frame.state)[(chosenRow s).toNat]? = some i := by
  simp [chooses, decode_operationWord, rowAt_eq_ok]

theorem mem_stepGroup_of_chooses {s : State} {i : Instr} (h : chooses s i) :
    i ∈ stepGroup s.frame.decoder s.frame.state :=
  List.mem_of_getElem? (chooses_iff.mp h)

/-- What is run is the operation chosen. -/
theorem runOperation_eq_next {s t : State} (h : runOperation s = .next t) :
    ∃ i, chooses s i ∧ exec i s = .next t := by
  unfold runOperation at h
  split at h
  · next i rest decoded =>
    rw [decode_operationWord, rowAt_eq_ok] at decoded
    exact ⟨i, chooses_iff.mpr decoded.1, h⟩
  · cases h

/-- An illegal selector's group is `ILLEGAL` alone (R131). -/
theorem stepGroup_of_illegal {d : DecoderTag} {p : ParserState} (h : legalPair d p = false) :
    stepGroup d p = [.illegal d p] := by
  revert h
  cases d <;> cases p <;> decide

/-- An illegal selector names its group's one row. -/
theorem chosenRow_of_illegal {s : State}
    (h : legalPair s.frame.decoder s.frame.state = false) : chosenRow s = 0 := by
  unfold chosenRow
  split
  case h_11 => rfl
  all_goals
    next decoder_eq state_eq =>
      rw [decoder_eq, state_eq] at h
      exact absurd h (by decide)

/-- A legal cursor stays, an illegal one is reset (R120, R131). -/
theorem legalise_eq (s : State) :
    legalise s =
      .next (if legalPair s.frame.decoder s.frame.state then s else frameReset s) := by
  cases legal : legalPair s.frame.decoder s.frame.state with
  | true => exact Marker.legalise_of_legal legal
  | false =>
    have chosen : chooses s (.illegal s.frame.decoder s.frame.state) := by
      rw [chooses_iff, stepGroup_of_illegal legal, chosenRow_of_illegal legal]; rfl
    simp only [legalise, legal, runOperation_of_decode chosen]
    rfl

theorem isStart_iff (c : Cfg) (v : Byte) : isStart c v = true ↔ v = c.startMarker := by
  simp [isStart]

theorem isFlagsVar_iff (c : Cfg) (v : Byte) : isFlagsVar c v = true ↔ c.ttFlagsVariant = some v := by
  simp [isFlagsVar]

theorem isEncapFunc_iff (c : Cfg) (v : Byte) : isEncapFunc c v = true ↔ v = c.funcV2Frame := by
  simp [isEncapFunc]

theorem len16_eq_zero_iff (s : State) : len16 s = 0#16 ↔ (len16 s).toNat = 0 :=
  BitVec.toNat_eq.trans Iff.rfl

/-- The condition of the chosen operation's row holds, under every configuration (R80, R81). -/
theorem rowCondition_of_chooses {s : State} {i : Instr} (h : chooses s i) : rowCondition i s := by
  rw [chooses_iff] at h
  simp only [chosenRow, isStart_iff, isFlagsVar_iff, isEncapFunc_iff, v1Last_iff, v2Last_iff,
    Option.isSome_iff_ne_none, len16_eq_zero_iff] at h
  split at h
  case h_1 decoder_eq state_eq | h_2 decoder_eq state_eq | h_5 decoder_eq state_eq
      | h_6 decoder_eq state_eq | h_9 decoder_eq state_eq | h_10 decoder_eq state_eq =>
    rw [decoder_eq, state_eq] at h
    split at h <;> cases h <;> exact ⟨⟨decoder_eq, state_eq⟩, ‹_›⟩
  case h_3 decoder_eq state_eq =>
    rw [decoder_eq, state_eq] at h
    split at h
    next flags => cases h; exact ⟨⟨decoder_eq, state_eq⟩, flags⟩
    next noFlags =>
      split at h <;> cases h
      next known => exact ⟨⟨decoder_eq, state_eq⟩, known, noFlags⟩
      next unknown => exact ⟨⟨decoder_eq, state_eq⟩, not_not.mp unknown⟩
  case h_4 decoder_eq state_eq =>
    rw [decoder_eq, state_eq] at h
    split at h
    next empty => cases h; exact ⟨⟨decoder_eq, state_eq⟩, empty⟩
    next nonempty =>
      have pos := Nat.pos_of_ne_zero nonempty
      split at h <;> cases h <;> exact ⟨⟨decoder_eq, state_eq⟩, pos, ‹_›⟩
  case h_7 decoder_eq state_eq =>
    rw [decoder_eq, state_eq] at h
    split at h <;> cases h
    next known => exact ⟨⟨decoder_eq, state_eq⟩, known⟩
    next unknown => exact ⟨⟨decoder_eq, state_eq⟩, not_not.mp unknown⟩
  case h_8 decoder_eq state_eq =>
    rw [decoder_eq, state_eq] at h
    split at h <;> cases h
    next empty => exact ⟨⟨decoder_eq, state_eq⟩, empty⟩
    next nonempty => exact ⟨⟨decoder_eq, state_eq⟩, Nat.pos_of_ne_zero nonempty⟩
  case h_11 =>
    cases decoder_eq : s.frame.decoder <;> cases state_eq : s.frame.state <;>
      rw [decoder_eq, state_eq] at h <;> cases h <;>
      simp_all [rowCondition, cursorAt, legalPair, isV1State, isV2SubState]

end Sys2Proof.Proofs.StepParts
end

section
/-! PROOFS. Which registers change (O47, O49, O50): a list of registers for each change of the state,
joined along an operation and then along a byte's step. -/

namespace Sys2Proof.Proofs.Registers

open Sys2Proof Sys2Proof.Machine Sys2Proof.Proofs.StepParts

/-! ## Changes of at most some registers -/

/-- From `s` to `t` every register outside the list keeps its value. -/
def ChangesOnly (rs : List Register) (s t : State) : Prop :=
  ∀ r, r ∉ rs → sameRegister r s t

theorem sameRegister_refl (r : Register) (s : State) : sameRegister r s s := by
  cases r <;> rfl

theorem sameRegister_trans {r : Register} {s t u : State} (first : sameRegister r s t)
    (second : sameRegister r t u) : sameRegister r s u := by
  cases r <;> exact Eq.trans second first

theorem changesOnly_refl (rs : List Register) (s : State) : ChangesOnly rs s s :=
  fun r _ => sameRegister_refl r s

namespace ChangesOnly

variable {rs rs' : List Register} {s t u : State}

theorem mono (h : ChangesOnly rs s t) (sub : rs ⊆ rs') : ChangesOnly rs' s t :=
  fun r notMem => h r fun mem => notMem (sub mem)

theorem trans (first : ChangesOnly rs s t) (second : ChangesOnly rs' t u) :
    ChangesOnly (rs ++ rs') s u := by
  intro r notMem
  rw [List.mem_append, not_or] at notMem
  exact sameRegister_trans (first r notMem.1) (second r notMem.2)

end ChangesOnly

/-! ## The named changes of the state -/

section

variable {rs : List Register} {s t : State}

theorem ChangesOnly.setState {p : ParserState} (h : ChangesOnly rs s t) :
    ChangesOnly (rs ++ [Register.state]) s (setState p t) :=
  h.trans (by intro r notMem; cases r <;> simp_all [sameRegister])

theorem ChangesOnly.setDecoder {d : DecoderTag} (h : ChangesOnly rs s t) :
    ChangesOnly (rs ++ [Register.decoder]) s (setDecoder d t) :=
  h.trans (by intro r notMem; cases r <;> simp_all [sameRegister])

theorem ChangesOnly.bufAppend {e : TimestampedByte} (h : ChangesOnly rs s t) :
    ChangesOnly (rs ++ [Register.payloadBuffer]) s (bufAppend e t) :=
  h.trans (by intro r notMem; cases r <;> simp_all [sameRegister])

theorem ChangesOnly.bufClear (h : ChangesOnly rs s t) :
    ChangesOnly (rs ++ [Register.payloadBuffer]) s (bufClear t) :=
  h.trans (by intro r notMem; cases r <;> simp_all [sameRegister])

theorem ChangesOnly.setV1Count {n k : Nat} (h : ChangesOnly rs s t) :
    ChangesOnly (rs ++ [Register.v1ExpectedLen, Register.v1ReceivedCount]) s (setV1Count n k t) :=
  h.trans (by intro r notMem; cases r <;> simp_all [sameRegister])

theorem ChangesOnly.bumpV1 (h : ChangesOnly rs s t) :
    ChangesOnly (rs ++ [Register.v1ReceivedCount]) s (bumpV1 t) :=
  h.trans (by intro r notMem; cases r <;> simp_all [sameRegister])

theorem ChangesOnly.setV1FuncId {v : Byte} (h : ChangesOnly rs s t) :
    ChangesOnly (rs ++ [Register.v1FuncId]) s (setV1FuncId v t) :=
  h.trans (by intro r notMem; cases r <;> simp_all [sameRegister])

theorem ChangesOnly.setV2Count {n k : Nat} (h : ChangesOnly rs s t) :
    ChangesOnly (rs ++ [Register.v2ExpectedLen, Register.v2ReceivedCount]) s (setV2Count n k t) :=
  h.trans (by intro r notMem; cases r <;> simp_all [sameRegister])

theorem ChangesOnly.bumpV2 (h : ChangesOnly rs s t) :
    ChangesOnly (rs ++ [Register.v2ReceivedCount]) s (bumpV2 t) :=
  h.trans (by intro r notMem; cases r <;> simp_all [sameRegister])

theorem ChangesOnly.setFuncAcc {a : Half} (h : ChangesOnly rs s t) :
    ChangesOnly (rs ++ [Register.v2FuncAcc]) s (setFuncAcc a t) :=
  h.trans (by intro r notMem; cases r <;> simp_all [sameRegister])

theorem ChangesOnly.setFuncStart {n : Nat} (h : ChangesOnly rs s t) :
    ChangesOnly (rs ++ [Register.v2FuncStart]) s (setFuncStart n t) :=
  h.trans (by intro r notMem; cases r <;> simp_all [sameRegister])

theorem ChangesOnly.setLenAcc {a : Half} (h : ChangesOnly rs s t) :
    ChangesOnly (rs ++ [Register.v2LenAcc]) s (setLenAcc a t) :=
  h.trans (by intro r notMem; cases r <;> simp_all [sameRegister])

theorem ChangesOnly.setLenStart {n : Nat} (h : ChangesOnly rs s t) :
    ChangesOnly (rs ++ [Register.v2LenStart]) s (setLenStart n t) :=
  h.trans (by intro r notMem; cases r <;> simp_all [sameRegister])

theorem ChangesOnly.setCrc1 {c : Byte} (h : ChangesOnly rs s t) :
    ChangesOnly (rs ++ [Register.crc1]) s (setCrc1 c t) :=
  h.trans (by intro r notMem; cases r <;> simp_all [sameRegister])

theorem ChangesOnly.setCrc2 {c : Byte} (h : ChangesOnly rs s t) :
    ChangesOnly (rs ++ [Register.crc2]) s (setCrc2 c t) :=
  h.trans (by intro r notMem; cases r <;> simp_all [sameRegister])

theorem ChangesOnly.foldCrc1 (h : ChangesOnly rs s t) :
    ChangesOnly (rs ++ [Register.crc1]) s (foldCrc1 t) :=
  h.trans (by intro r notMem; cases r <;> simp_all [sameRegister])

theorem ChangesOnly.foldCrc2 (h : ChangesOnly rs s t) :
    ChangesOnly (rs ++ [Register.crc2]) s (foldCrc2 t) :=
  h.trans (by intro r notMem; cases r <;> simp_all [sameRegister])

theorem ChangesOnly.startCrc2 (h : ChangesOnly rs s t) :
    ChangesOnly (rs ++ [Register.crc2]) s (startCrc2 t) :=
  h.trans (by intro r notMem; cases r <;> simp_all [sameRegister])

theorem ChangesOnly.emit {a z : Nat} {x : String} (h : ChangesOnly rs s t) :
    ChangesOnly (rs ++ [Register.out]) s (emit a z x t) :=
  h.trans (by intro r notMem; cases r <;> simp_all [sameRegister])

theorem ChangesOnly.emitCur {x : String} (h : ChangesOnly rs s t) :
    ChangesOnly (rs ++ [Register.out]) s (emitCur x t) :=
  h.trans (by intro r notMem; cases r <;> simp_all [sameRegister])

theorem ChangesOnly.emitAll {l : List LabeledField} (h : ChangesOnly rs s t) :
    ChangesOnly (rs ++ [Register.out]) s (emitAll l t) :=
  h.trans (by intro r notMem; cases r <;> simp_all [sameRegister])

theorem ChangesOnly.setField {f : FieldPorts} (h : ChangesOnly rs s t) :
    ChangesOnly (rs ++ [Register.field]) s (setField f t) :=
  h.trans (by intro r notMem; cases r <;> simp_all [sameRegister])

theorem ChangesOnly.frameReset (h : ChangesOnly rs s t) :
    ChangesOnly (rs ++ frameRegisters) s (frameReset t) :=
  h.trans (by intro r notMem; cases r <;> simp_all [sameRegister, frameRegisters])

end

/-! ## What the operations share -/

theorem takeV1Func_changesOnly (s : State) :
    ChangesOnly [.crc1, .v1FuncId, .out] s (takeV1Func s) :=
  (changesOnly_refl [] s).foldCrc1.setV1FuncId.emitCur

theorem takeV1Payload_changesOnly (s : State) :
    ChangesOnly [.payloadBuffer, .crc1, .v1ReceivedCount] s (takeV1Payload s) :=
  (changesOnly_refl [] s).bufAppend.foldCrc1.bumpV1

theorem takeV2Flags_changesOnly (s : State) : ChangesOnly [.crc2, .out] s (takeV2Flags s) :=
  (changesOnly_refl [] s).startCrc2.emitCur

theorem takeV2Func1_changesOnly (s : State) :
    ChangesOnly [.crc2, .v2FuncAcc, .v2FuncStart] s (takeV2Func1 s) :=
  (changesOnly_refl [] s).foldCrc2.setFuncAcc.setFuncStart

theorem takeV2Func2_changesOnly (s : State) :
    ChangesOnly [.crc2, .v2FuncAcc, .out] s (takeV2Func2 s) :=
  (changesOnly_refl [] s).foldCrc2.setFuncAcc.emit

theorem takeV2Size1_changesOnly (s : State) :
    ChangesOnly [.crc2, .v2LenAcc, .v2LenStart] s (takeV2Size1 s) :=
  (changesOnly_refl [] s).foldCrc2.setLenAcc.setLenStart

/-- What completing the v2 length changes, whether or not a payload follows (R166, R167). -/
def sizeRegisters : List Register :=
  [.crc2, .v2LenAcc, .payloadBuffer, .v2ExpectedLen, .v2ReceivedCount, .out]

theorem takeV2Size2Payload_changesOnly (s : State) :
    ChangesOnly sizeRegisters s (takeV2Size2Payload s) :=
  (changesOnly_refl [] s).foldCrc2.setLenAcc.bufClear.setV2Count.emit

theorem takeV2Size2Empty_changesOnly (s : State) :
    ChangesOnly sizeRegisters s (takeV2Size2Empty s) :=
  (changesOnly_refl [] s).foldCrc2.setLenAcc.bufClear.setV2Count.emit

theorem takeV2Payload_changesOnly (s : State) :
    ChangesOnly [.payloadBuffer, .crc2, .out, .v2ReceivedCount] s (takeV2Payload s) :=
  (changesOnly_refl [] s).bufAppend.foldCrc2.emitCur.bumpV2

/-- The wrapper adds its own registers to those of the inner operation (R180). -/
theorem encapsulate_changesOnly {rs : List Register} {inner : State → State}
    (h : ∀ s, ChangesOnly rs s (inner s)) (n : InnerNext) (s : State) :
    ChangesOnly (wrapperRegisters ++ rs) s (encapsulate inner n s) := by
  rw [encapsulate_eq]
  refine (((changesOnly_refl [] s).foldCrc1.bumpV1.trans (h _)).setState).mono fun r mem => ?_
  simp only [wrapperRegisters, List.mem_append, List.mem_cons] at mem ⊢
  tauto

/-! ## The operations -/

/-- Every operation changes only the registers its row lists (R48). -/
theorem exec_changesOnly {i : Instr} {s t : State} (h : exec i s = .next t) :
    ChangesOnly (writes i) s t := by
  have start := changesOnly_refl [] s
  cases i with
  | calibrate => cases h; intro r notMem; cases r <;> simp_all [sameRegister, writes]
  | timeout =>
    simp only [exec, execTimeout] at h
    split at h <;> cases h
    · exact start.frameReset
    · exact changesOnly_refl _ s
  | idleSkip | startOther | fdSkip => cases h; exact start
  | idleStart => cases h; exact start.frameReset.setCrc1.setCrc2.emitCur.setState.mono (by decide)
  | startV1 | startV2 => cases h; exact start.setDecoder.emitCur.setState.mono (by decide)
  | hmFlagsvar | hmKnown | hmInvalid | v1Flags | hxKnown | hxInvalid =>
    cases h; exact start.emitCur.setState.mono (by decide)
  | v1Size =>
    cases h; exact start.bufClear.setV1Count.foldCrc1.emitCur.setState.mono (by decide)
  | v1FuncPayload | v1FuncEmpty | v1FuncEncap =>
    cases h; exact (takeV1Func_changesOnly s).setState.mono (by decide)
  | v1PayloadMore => cases h; exact (takeV1Payload_changesOnly s).mono (by decide)
  | v1PayloadLast => cases h; exact (takeV1Payload_changesOnly s).emitAll.setState.mono (by decide)
  | v1ChecksumOk | v1ChecksumErr | v2ChecksumOk | v2ChecksumErr =>
    cases h; exact start.emitCur.frameReset
  | v2Flags => cases h; exact (takeV2Flags_changesOnly s).setState.mono (by decide)
  | v2Func1 => cases h; exact (takeV2Func1_changesOnly s).setState.mono (by decide)
  | v2Func2 => cases h; exact (takeV2Func2_changesOnly s).setState.mono (by decide)
  | v2Size1 => cases h; exact (takeV2Size1_changesOnly s).setState.mono (by decide)
  | v2Size2Payload => cases h; exact (takeV2Size2Payload_changesOnly s).setState.mono (by decide)
  | v2Size2Empty => cases h; exact (takeV2Size2Empty_changesOnly s).setState.mono (by decide)
  | v2PayloadMore => cases h; exact (takeV2Payload_changesOnly s).mono (by decide)
  | v2PayloadLast => cases h; exact (takeV2Payload_changesOnly s).setState.mono (by decide)
  | eFlags => cases h; exact encapsulate_changesOnly takeV2Flags_changesOnly _ s
  | eFunc1 => cases h; exact encapsulate_changesOnly takeV2Func1_changesOnly _ s
  | eFunc2 => cases h; exact encapsulate_changesOnly takeV2Func2_changesOnly _ s
  | eSize1 => cases h; exact encapsulate_changesOnly takeV2Size1_changesOnly _ s
  | eSize2 =>
    simp only [exec, execESize2] at h
    split at h <;> cases h
    · exact encapsulate_changesOnly takeV2Size2Empty_changesOnly _ s
    · exact encapsulate_changesOnly takeV2Size2Payload_changesOnly _ s
  | ePayload =>
    simp only [exec, execEPayload] at h
    split at h <;> cases h
    all_goals exact (encapsulate_changesOnly takeV2Payload_changesOnly _ s).mono (by decide)
  | eChecksum =>
    simp only [exec, execEChecksum] at h
    split at h <;> cases h
    all_goals exact encapsulate_changesOnly (fun u => (changesOnly_refl [] u).emitCur) _ s
  | illegal d p => cases h; exact start.frameReset
  | xor8 c v | crc8 c v => cases h; intro r notMem; cases r <;> simp_all [sameRegister, writes]
  | fdRun | fdOpaque | fdFixedw | fdRest | fdIText | fdIFixed | fdIIndex | fdIMap | fdIRaw =>
    cases h; exact start.setField

/-- Settles O47: an operation leaves every register its row does not list as it was. -/
theorem registersChangeOnlyWhereListed : Obligations.RegistersChangeOnlyWhereListed :=
  fun _ _ _ r h notListed => exec_changesOnly h r notListed

/-! ## A byte's step -/

/-- What an operation with a selector may write at all: the frame state and the output list. -/
def operationRegisters : List Register := .out :: frameRegisters

theorem writes_subset_of_mem_stepGroup {d : DecoderTag} {p : ParserState} {i : Instr}
    (h : i ∈ stepGroup d p) : writes i ⊆ operationRegisters := by
  revert i
  cases d <;> cases p <;> decide

theorem runOperation_changesOnly {s t : State} (h : runOperation s = .next t) :
    ChangesOnly operationRegisters s t := by
  obtain ⟨i, chosen, ran⟩ := runOperation_eq_next h
  exact (exec_changesOnly ran).mono
    (writes_subset_of_mem_stepGroup (mem_stepGroup_of_chooses chosen))

theorem legalise_changesOnly {s t : State} (h : legalise s = .next t) :
    ChangesOnly operationRegisters s t := by
  rw [legalise_eq] at h
  split at h <;> cases h
  · exact changesOnly_refl _ s
  · exact (changesOnly_refl [] s).frameReset.mono (by decide)

/-- All that follows the pre-step in a byte's step, up to its end. -/
theorem legalise_runOperation_changesOnly {s t u : State} (legalised : legalise s = .next t)
    (ran : runOperation t = .next u) : ChangesOnly operationRegisters s u :=
  ((legalise_changesOnly legalised).trans (runOperation_changesOnly ran)).mono (by decide)

theorem preOperation_changesOnly {s t : State} (h : exec (preOperation s) s = .next t) :
    ChangesOnly ([.calDuration, .calibrated] ++ frameRegisters) s t := by
  refine (exec_changesOnly h).mono ?_
  unfold preOperation
  split <;> decide

theorem closeStep_changesOnly (s : State) :
    ChangesOnly [.lastByteTime, .stream] s (closeStep s) := by
  intro r notMem; cases r <;> simp_all [sameRegister]

theorem byteStep_changesOnly {s t : State} (h : byteStep s = .next t) :
    ChangesOnly
      (frameRegisters ++ [.calDuration, .calibrated, .lastByteTime, .out, .stream]) s t := by
  obtain ⟨a, b, c, pre, legalised, ran, rfl⟩ := byteStep_eq_next h
  exact (((preOperation_changesOnly pre).trans
    (legalise_runOperation_changesOnly legalised ran)).trans (closeStep_changesOnly c)).mono
    (by decide)

/-- Settles O50: no step writes the configuration or the sub-functions' ports. -/
theorem configurationIsConstant : Obligations.ConfigurationIsConstant := by
  intro s t h
  cases delivered : s.input with
  | nil =>
    rw [step_of_no_input delivered] at h
    cases h
    exact ⟨rfl, rfl, rfl⟩
  | cons e rest =>
    cases e with
    | reset =>
      rw [step_of_reset delivered] at h
      cases h
      exact ⟨rfl, rfl, rfl⟩
    | byte b =>
      rw [step_of_byte delivered] at h
      have kept := byteStep_changesOnly h
      exact ⟨kept .cfg (by decide), kept .fnResult (by decide), kept .field (by decide)⟩

/-! ## The timing registers -/

theorem exec_preOperation_timing {s t : State} (h : exec (preOperation s) s = .next t) :
    t.timing =
      { s.timing with
        calDuration :=
          if s.timing.calibrated then s.timing.calDuration else s.cur.endTime - s.cur.startTime
        calibrated := true } := by
  rcases exec_preOperation_eq_next h with ⟨first, rfl⟩ | ⟨later, reset_or_same⟩
  · simp [calibrated, first]
  · have same : t.timing = s.timing := by rcases reset_or_same with rfl | rfl <;> rfl
    rw [same, if_pos later, ← later]

/-- Settles O49: the first byte calibrates, and every byte's end is kept. -/
theorem calibrationHappensOnce : Obligations.CalibrationHappensOnce := by
  intro s t b rest delivered h
  rw [step_of_byte delivered] at h
  obtain ⟨a, a', c, pre, legalised, ran, rfl⟩ := byteStep_eq_next h
  have kept := legalise_runOperation_changesOnly legalised ran
  have duration : c.timing.calDuration = a.timing.calDuration := kept .calDuration (by decide)
  have flag : c.timing.calibrated = a.timing.calibrated := kept .calibrated (by decide)
  have byte : c.cur = b :=
    (kept .cur (by decide)).trans (preOperation_changesOnly pre .cur (by decide))
  simp only [closeStep_timing, duration, flag, byte, exec_preOperation_timing pre]
  rfl

end Sys2Proof.Proofs.Registers
end

section
/-! PROOFS. The Session invariant (O38, O39): written as the laws of the counters and one law for each
cursor, which the chosen operation keeps row by row. -/

namespace Sys2Proof.Proofs.Invariant

open Sys2Proof Sys2Proof.Machine Sys2Proof.Proofs.StepParts Sys2Proof.Proofs.Registers

/-! ## The invariant by cursor -/

/-- The widths of the lengths, the counts within them, and the buffer within the count of its frame
(R26, R29, R41, R52). -/
def CountLaws (f : Frame) : Prop :=
  f.v1.expectedLen ≤ 255 ∧ f.v2.expectedLen ≤ 65535 ∧
    f.v1.receivedCount ≤ f.v1.expectedLen ∧ f.v2.receivedCount ≤ f.v2.expectedLen ∧
    (f.decoder = .v1 → f.payloadBuffer.length ≤ f.v1.receivedCount) ∧
    (f.decoder = .v2 → f.payloadBuffer.length ≤ f.v2.receivedCount)

/-- The v1 payload is not complete. -/
def V1Open (f : Frame) : Prop := f.v1.receivedCount < f.v1.expectedLen

/-- The v2 payload is not complete. -/
def V2Open (f : Frame) : Prop := f.v2.receivedCount < f.v2.expectedLen

/-- What the invariant says at each legal cursor (R24); no other cursor satisfies it. -/
def CursorLaw (f : Frame) : Prop :=
  match f.decoder, f.state with
  | .none, .idle => f = Frame.reset
  | .none, .start => f = { Frame.reset with state := .start }
  | .v1, .headerM | .v1, .v1Flags | .v1, .v1PayloadSize => f.crc1 = 0#8
  | .v1, .v1PayloadFunc => f.v1.receivedCount = 0
  | .v1, .v1Payload | .v1, .v2Flags | .v1, .v2Func1 | .v1, .v2Func2 | .v1, .v2Size1
  | .v1, .v2Size2 | .v1, .v2Checksum => V1Open f
  | .v1, .v2Payload => V1Open f ∧ V2Open f
  | .v2, .v2Payload => V2Open f
  | .v1, .v1Checksum | .v2, .headerX | .v2, .v2Flags | .v2, .v2Func1 | .v2, .v2Func2
  | .v2, .v2Size1 | .v2, .v2Size2 | .v2, .v2Checksum => True
  | _, _ => False

/-- The part of the invariant that speaks of the frame state. -/
def FrameLaws (f : Frame) : Prop := CountLaws f ∧ CursorLaw f

theorem cursorLaw_of_sessionInv {s : State} (inv : SessionInv s) : CursorLaw s.frame := by
  have outerOpen (decoder_eq : s.frame.decoder = .v1) (sub : isV2SubState s.frame.state = true) :
      V1Open s.frame := inv.v1Open (.inr ((encap_iff _).mpr ⟨decoder_eq, sub⟩))
  unfold CursorLaw
  split
  case h_1 state_eq => exact inv.rest state_eq
  case h_2 state_eq => exact inv.started state_eq
  case h_3 state_eq | h_4 state_eq | h_5 state_eq => exact inv.v1CrcFresh (by simp [state_eq])
  case h_6 state_eq => exact inv.v1Fresh state_eq
  case h_7 state_eq => exact inv.v1Open (.inl state_eq)
  case h_8 decoder_eq state_eq | h_9 decoder_eq state_eq | h_10 decoder_eq state_eq
      | h_11 decoder_eq state_eq | h_12 decoder_eq state_eq | h_13 decoder_eq state_eq =>
    exact outerOpen decoder_eq (by rw [state_eq]; rfl)
  case h_14 decoder_eq state_eq =>
    exact ⟨outerOpen decoder_eq (by rw [state_eq]; rfl), inv.v2Open state_eq⟩
  case h_15 state_eq => exact inv.v2Open state_eq
  case h_24 =>
    have legal := inv.legal
    cases decoder_eq : s.frame.decoder <;> cases state_eq : s.frame.state <;>
      simp_all [legalPair, isV1State, isV2SubState]
  all_goals trivial

namespace CursorLaw

variable {f : Frame}

theorem legal (law : CursorLaw f) : legalPair f.decoder f.state = true := by
  unfold CursorLaw at law
  split at law <;> simp_all [legalPair, isV1State, isV2SubState]

theorem v1Open (law : CursorLaw f) (h : f.state = .v1Payload ∨ encap f = true) : V1Open f := by
  rcases h with state_eq | inner
  · cases decoder_eq : f.decoder <;> simp_all [CursorLaw]
  · rw [encap_iff] at inner
    obtain ⟨decoder_eq, sub⟩ := inner
    cases state_eq : f.state <;> simp_all [CursorLaw, isV2SubState]

theorem v2Open (law : CursorLaw f) (state_eq : f.state = .v2Payload) : V2Open f := by
  cases decoder_eq : f.decoder <;> simp_all [CursorLaw]

theorem v1Fresh (law : CursorLaw f) (state_eq : f.state = .v1PayloadFunc) :
    f.v1.receivedCount = 0 := by
  cases decoder_eq : f.decoder <;> simp_all [CursorLaw]

theorem v1CrcFresh (law : CursorLaw f)
    (h : f.state = .headerM ∨ f.state = .v1Flags ∨ f.state = .v1PayloadSize) : f.crc1 = 0#8 := by
  rcases h with state_eq | state_eq | state_eq <;>
    cases decoder_eq : f.decoder <;> simp_all [CursorLaw]

theorem rest (law : CursorLaw f) (state_eq : f.state = .idle) : f = Frame.reset := by
  cases decoder_eq : f.decoder <;> simp_all [CursorLaw]

theorem started (law : CursorLaw f) (state_eq : f.state = .start) :
    f = { Frame.reset with state := .start } := by
  cases decoder_eq : f.decoder <;> simp_all [CursorLaw]

/-- In encapsulated mode the outer payload is open. -/
theorem outerOpen (law : CursorLaw f) (decoder_eq : f.decoder = .v1) {p : ParserState}
    (state_eq : f.state = p) (sub : isV2SubState p = true) : V1Open f :=
  law.v1Open (.inr ((encap_iff f).mpr ⟨decoder_eq, state_eq ▸ sub⟩))

/-- The converse: at an encapsulated cursor the law is the open payloads. -/
theorem of_encapsulated (decoder_eq : f.decoder = .v1) (sub : isV2SubState f.state = true)
    (isOpen : V1Open f) (innerOpen : f.state = .v2Payload → V2Open f) : CursorLaw f := by
  cases state_eq : f.state <;> simp_all [CursorLaw, isV2SubState]

end CursorLaw

theorem frameLaws_of_sessionInv {s : State} (inv : SessionInv s) : FrameLaws s.frame :=
  ⟨⟨inv.v1Width, inv.v2Width, inv.v1Count, inv.v2Count, inv.v1Buffer, inv.v2Buffer⟩,
    cursorLaw_of_sessionInv inv⟩

theorem sessionInv_of_frameLaws {s : State} (laws : FrameLaws s.frame)
    (untouched : s.timing.calibrated = false → s.frame = Frame.reset ∧ s.timing = Timing.reset) :
    SessionInv s := by
  obtain ⟨⟨v1Width, v2Width, v1Count, v2Count, v1Buffer, v2Buffer⟩, law⟩ := laws
  exact
    { legal := law.legal
      v1Width, v2Width, v1Count, v2Count
      v1Open := law.v1Open
      v2Open := law.v2Open
      v1Fresh := law.v1Fresh
      v1CrcFresh := law.v1CrcFresh
      rest := law.rest
      started := law.started
      v1Buffer, v2Buffer
      uncalibrated := untouched }

theorem frameLaws_reset : FrameLaws Frame.reset := by
  simp [FrameLaws, CountLaws, CursorLaw, Frame.reset]

/-- The reset state, and every state right after a hardware reset, satisfies the invariant. -/
theorem sessionInv_of_reset {s : State} (frame_eq : s.frame = Frame.reset)
    (timing_eq : s.timing = Timing.reset) : SessionInv s :=
  sessionInv_of_frameLaws (frame_eq ▸ frameLaws_reset) fun _ => ⟨frame_eq, timing_eq⟩

/-- Settles O38: the reset values of R46, and the invariant holds there. -/
theorem resetValuesMeetTheSessionLaws : Obligations.ResetValuesMeetTheSessionLaws :=
  fun _ => ⟨⟨rfl, rfl, rfl, rfl, rfl, rfl, rfl⟩, rfl, rfl, sessionInv_of_reset rfl rfl, rfl⟩

/-! ## The counters (R41, R52) -/

section

variable {s : State}

/-- A payload byte of a plain v1 frame is appended and counted, within the declared length. -/
theorem takeV1Payload_countLaws (counts : CountLaws s.frame) (decoder_eq : s.frame.decoder = .v1)
    (isOpen : V1Open s.frame) : CountLaws (takeV1Payload s).frame := by
  obtain ⟨v1Width, v2Width, -, v2Count, v1Buffer, -⟩ := counts
  refine ⟨v1Width, v2Width, isOpen, v2Count, fun _ => ?_, fun isV2 => ?_⟩
  · simpa [takeV1Payload] using v1Buffer decoder_eq
  · cases decoder_eq.symm.trans isV2

/-- A payload byte of a standalone v2 frame is appended and counted, within the declared length. -/
theorem takeV2Payload_countLaws (counts : CountLaws s.frame) (decoder_eq : s.frame.decoder = .v2)
    (isOpen : V2Open s.frame) : CountLaws (takeV2Payload s).frame := by
  obtain ⟨v1Width, v2Width, v1Count, -, -, v2Buffer⟩ := counts
  refine ⟨v1Width, v2Width, v1Count, isOpen, fun isV1 => ?_, fun _ => ?_⟩
  · cases decoder_eq.symm.trans isV1
  · simpa [takeV2Payload] using v2Buffer decoder_eq

/-- A v1 length byte starts its count at 0, with an empty buffer. -/
theorem setV1Count_bufClear_countLaws (counts : CountLaws s.frame) (v : Byte) :
    CountLaws (setV1Count v.toNat 0 (bufClear s)).frame := by
  obtain ⟨-, v2Width, -, v2Count, -, -⟩ := counts
  exact ⟨Nat.le_of_lt_succ v.isLt, v2Width, Nat.zero_le _, v2Count, fun _ => Nat.le_refl 0,
    fun _ => Nat.zero_le _⟩

/-- A completed v2 length starts its count at 0, with an empty buffer. -/
theorem setV2Count_bufClear_countLaws (counts : CountLaws s.frame) (n : Half) :
    CountLaws (setV2Count n.toNat 0 (bufClear s)).frame := by
  obtain ⟨v1Width, -, v1Count, -, -, -⟩ := counts
  exact ⟨v1Width, Nat.le_of_lt_succ n.isLt, v1Count, Nat.zero_le _, fun _ => Nat.zero_le _,
    fun _ => Nat.le_refl 0⟩

end

/-! ## The encapsulated wrapper (R180) -/

/-- Where the wrapper goes while the outer payload is open, the inner payload is open if it must be. -/
def Enterable (f : Frame) : InnerNext → Prop
  | .done => True
  | .goto p => isV2SubState p = true ∧ (p = .v2Payload → V2Open f)

/-- What the wrapper needs of the inner operation, from the frame `f` to the frame `g`: the inner count
stays within its length, one entry is appended at most, and the next state is entered as it may be. -/
def InnerLaws (f g : Frame) (n : InnerNext) : Prop :=
  g.v2.receivedCount ≤ g.v2.expectedLen ∧ g.v2.expectedLen ≤ 65535 ∧
    g.payloadBuffer.length ≤ f.payloadBuffer.length + 1 ∧ Enterable g n

/-- The wrapper keeps the laws when the inner operation leaves the decoder and the outer registers alone
and keeps its own laws. -/
theorem encapsulate_frameLaws {inner : State → State} {n : InnerNext} {s : State}
    (counts : CountLaws s.frame) (decoder_eq : s.frame.decoder = .v1) (isOpen : V1Open s.frame)
    (outerKept : ∀ u, (inner u).frame.decoder = u.frame.decoder ∧ (inner u).frame.v1 = u.frame.v1)
    (innerLaws : InnerLaws s.frame (inner (bumpV1 (foldCrc1 s))).frame n) :
    FrameLaws (encapsulate inner n s).frame := by
  obtain ⟨v1Width, -, -, -, v1Buffer, -⟩ := counts
  obtain ⟨decoder_kept, v1_kept⟩ := outerKept (bumpV1 (foldCrc1 s))
  rw [encapsulate_eq, setState_frame]
  generalize (inner (bumpV1 (foldCrc1 s))).frame = f at *
  obtain ⟨v2Count, v2Width, appended, enterable⟩ := innerLaws
  have isV1 : f.decoder = .v1 := decoder_kept.trans decoder_eq
  have v1Count : f.v1.receivedCount ≤ f.v1.expectedLen := by rw [v1_kept]; exact isOpen
  have counts' : CountLaws f := by
    refine ⟨?_, v2Width, v1Count, v2Count, fun _ => ?_, fun isV2 => ?_⟩
    · rw [v1_kept]; exact v1Width
    · rw [v1_kept]; exact appended.trans (Nat.succ_le_succ (v1Buffer decoder_eq))
    · cases isV1.symm.trans isV2
  refine ⟨counts', ?_⟩
  split
  · simp [CursorLaw, isV1]
  · next incomplete =>
    have stillOpen : V1Open f := lt_of_le_of_ne v1Count incomplete
    cases n with
    | done => simpa [CursorLaw, V1Open, isV1] using stillOpen
    | goto p => exact .of_encapsulated isV1 enterable.1 stillOpen enterable.2

/-! ## The operations, row by row (R81) -/

/-- The chosen operation keeps the laws of the frame state. -/
theorem exec_frameLaws {i : Instr} {s t : State} (cond : rowCondition i s)
    (laws : FrameLaws s.frame) (h : exec i s = .next t) : FrameLaws t.frame := by
  obtain ⟨counts, law⟩ := laws
  have ⟨_, v2Width, _, v2Count, _, _⟩ := counts
  cases i with
  | idleStart => cases h; simp [FrameLaws, CountLaws, CursorLaw, Frame.reset]
  | idleSkip | startOther => cases h; exact ⟨counts, law⟩
  | startV1 | startV2 =>
    obtain ⟨⟨-, state_eq⟩, -⟩ := cond
    cases h
    simp [FrameLaws, CountLaws, CursorLaw, law.started state_eq, Frame.reset]
  | illegal | v1ChecksumOk | v1ChecksumErr | v2ChecksumOk | v2ChecksumErr =>
    cases h; exact frameLaws_reset
  | hmFlagsvar | hmKnown | hmInvalid =>
    obtain ⟨⟨decoder_eq, state_eq⟩, -⟩ := cond
    cases h
    exact ⟨counts, by simpa [CursorLaw, decoder_eq] using law.v1CrcFresh (.inl state_eq)⟩
  | v1Flags =>
    obtain ⟨decoder_eq, state_eq⟩ := cond
    cases h
    exact ⟨counts, by simpa [CursorLaw, decoder_eq] using law.v1CrcFresh (.inr (.inl state_eq))⟩
  | v1Size =>
    obtain ⟨decoder_eq, -⟩ := cond
    cases h
    exact ⟨setV1Count_bufClear_countLaws counts _, by simp [CursorLaw, decoder_eq]⟩
  | v1FuncEmpty =>
    obtain ⟨⟨decoder_eq, -⟩, -⟩ := cond
    cases h
    exact ⟨counts, by simp [CursorLaw, takeV1Func, decoder_eq]⟩
  | v1FuncPayload | v1FuncEncap =>
    obtain ⟨⟨decoder_eq, state_eq⟩, nonempty, -⟩ := cond
    have isOpen : V1Open s.frame := by rw [V1Open, law.v1Fresh state_eq]; exact nonempty
    cases h
    exact ⟨counts, by simpa [CursorLaw, V1Open, takeV1Func, decoder_eq] using isOpen⟩
  | v1PayloadMore =>
    obtain ⟨⟨decoder_eq, state_eq⟩, more⟩ := cond
    have isOpen := law.v1Open (.inl state_eq)
    cases h
    refine ⟨takeV1Payload_countLaws counts decoder_eq isOpen, ?_⟩
    simpa [CursorLaw, V1Open, takeV1Payload, decoder_eq, state_eq] using lt_of_le_of_ne isOpen more
  | v1PayloadLast =>
    obtain ⟨⟨decoder_eq, state_eq⟩, -⟩ := cond
    cases h
    exact ⟨takeV1Payload_countLaws counts decoder_eq (law.v1Open (.inl state_eq)),
      by simp [CursorLaw, takeV1Payload, decoder_eq]⟩
  | hxKnown | hxInvalid =>
    obtain ⟨⟨decoder_eq, -⟩, -⟩ := cond
    cases h
    exact ⟨counts, by simp [CursorLaw, decoder_eq]⟩
  | v2Flags | v2Func1 | v2Func2 | v2Size1 =>
    obtain ⟨decoder_eq, -⟩ := cond
    cases h
    simpa [FrameLaws, CountLaws, CursorLaw, takeV2Flags, takeV2Func1, takeV2Func2, takeV2Size1,
      decoder_eq] using counts
  | v2Size2Payload =>
    obtain ⟨⟨decoder_eq, -⟩, nonempty⟩ := cond
    cases h
    exact ⟨setV2Count_bufClear_countLaws counts _,
      by simpa [CursorLaw, V2Open, takeV2Size2Payload, decoder_eq] using nonempty⟩
  | v2Size2Empty =>
    obtain ⟨⟨decoder_eq, -⟩, -⟩ := cond
    cases h
    exact ⟨setV2Count_bufClear_countLaws counts 0, by simp [CursorLaw, takeV2Size2Empty, decoder_eq]⟩
  | v2PayloadMore =>
    obtain ⟨⟨decoder_eq, state_eq⟩, more⟩ := cond
    have isOpen := law.v2Open state_eq
    cases h
    refine ⟨takeV2Payload_countLaws counts decoder_eq isOpen, ?_⟩
    simpa [CursorLaw, V2Open, takeV2Payload, decoder_eq, state_eq] using lt_of_le_of_ne isOpen more
  | v2PayloadLast =>
    obtain ⟨⟨decoder_eq, state_eq⟩, -⟩ := cond
    cases h
    exact ⟨takeV2Payload_countLaws counts decoder_eq (law.v2Open state_eq),
      by simp [CursorLaw, takeV2Payload, decoder_eq]⟩
  | eFlags | eFunc1 | eFunc2 | eSize1 =>
    obtain ⟨decoder_eq, state_eq⟩ := cond
    have isOpen := law.outerOpen decoder_eq state_eq rfl
    cases h
    exact encapsulate_frameLaws counts decoder_eq isOpen (fun _ => ⟨rfl, rfl⟩)
      ⟨v2Count, v2Width, Nat.le_succ _, rfl, nofun⟩
  | eSize2 =>
    obtain ⟨decoder_eq, state_eq⟩ := cond
    have isOpen := law.outerOpen decoder_eq state_eq rfl
    simp only [exec, execESize2, len16_eq_zero_iff] at h
    split at h <;> cases h
    next =>
      exact encapsulate_frameLaws counts decoder_eq isOpen (fun _ => ⟨rfl, rfl⟩)
        ⟨Nat.le_refl 0, Nat.zero_le _, Nat.zero_le _, rfl, nofun⟩
    next nonempty =>
      exact encapsulate_frameLaws counts decoder_eq isOpen (fun _ => ⟨rfl, rfl⟩)
        ⟨Nat.zero_le _, Nat.le_of_lt_succ (len16 s).isLt, Nat.zero_le _, rfl,
          fun _ => Nat.pos_of_ne_zero nonempty⟩
  | ePayload =>
    obtain ⟨decoder_eq, state_eq⟩ := cond
    have isOpen := law.outerOpen decoder_eq state_eq rfl
    have innerOpen := law.v2Open state_eq
    have appended :
        (s.frame.payloadBuffer ++ [s.cur]).length ≤ s.frame.payloadBuffer.length + 1 :=
      Nat.le_of_eq List.length_append
    simp only [exec, execEPayload, v2Last_iff] at h
    split at h <;> cases h
    next =>
      exact encapsulate_frameLaws counts decoder_eq isOpen (fun _ => ⟨rfl, rfl⟩)
        ⟨innerOpen, v2Width, appended, rfl, nofun⟩
    next more =>
      exact encapsulate_frameLaws counts decoder_eq isOpen (fun _ => ⟨rfl, rfl⟩)
        ⟨innerOpen, v2Width, appended, rfl, fun _ => lt_of_le_of_ne innerOpen more⟩
  | eChecksum =>
    obtain ⟨decoder_eq, state_eq⟩ := cond
    have isOpen := law.outerOpen decoder_eq state_eq rfl
    simp only [exec, execEChecksum] at h
    split at h <;> cases h
    all_goals
      exact encapsulate_frameLaws counts decoder_eq isOpen (fun _ => ⟨rfl, rfl⟩)
        ⟨v2Count, v2Width, Nat.le_succ _, trivial⟩
  | _ => exact cond.elim

/-! ## The step -/

/-- The pre-step leaves the frame state alone or resets it (R122, R123). -/
theorem preOperation_frameLaws {s t : State} (laws : FrameLaws s.frame)
    (h : exec (preOperation s) s = .next t) : FrameLaws t.frame := by
  rcases exec_preOperation_eq_next h with ⟨-, rfl⟩ | ⟨-, rfl | rfl⟩
  · exact laws
  · exact frameLaws_reset
  · exact laws

theorem legalise_frameLaws {s t : State} (laws : FrameLaws s.frame) (h : legalise s = .next t) :
    FrameLaws t.frame := by
  rw [Marker.legalise_of_legal laws.2.legal] at h
  cases h
  exact laws

theorem runOperation_frameLaws {s t : State} (laws : FrameLaws s.frame)
    (h : runOperation s = .next t) : FrameLaws t.frame := by
  obtain ⟨i, chosen, ran⟩ := runOperation_eq_next h
  exact exec_frameLaws (rowCondition_of_chooses chosen) laws ran

theorem byteStep_frameLaws {s t : State} (laws : FrameLaws s.frame) (h : byteStep s = .next t) :
    FrameLaws t.frame := by
  obtain ⟨a, b, c, pre, legalised, ran, rfl⟩ := byteStep_eq_next h
  have lawsC : FrameLaws c.frame :=
    runOperation_frameLaws (legalise_frameLaws (preOperation_frameLaws laws pre) legalised) ran
  exact lawsC

/-- Settles O39: nothing delivered changes nothing, a hardware reset gives the reset state, and a byte's
step keeps the laws of the frame state and leaves the Session calibrated. -/
theorem sessionLawsSurviveEveryStep : Obligations.SessionLawsSurviveEveryStep := by
  intro s t inv h
  cases delivered : s.input with
  | nil =>
    rw [step_of_no_input delivered] at h
    cases h
    exact inv
  | cons e rest =>
    cases e with
    | reset =>
      rw [step_of_reset delivered] at h
      cases h
      exact sessionInv_of_reset rfl rfl
    | byte b =>
      have calibrated : t.timing.calibrated = true := by
        rw [calibrationHappensOnce s t b rest delivered h]
      rw [step_of_byte delivered] at h
      have laws : FrameLaws s.frame := frameLaws_of_sessionInv inv
      exact sessionInv_of_frameLaws (byteStep_frameLaws (s := latch b rest s) laws h)
        fun uncalibrated => by simp [calibrated] at uncalibrated

end Sys2Proof.Proofs.Invariant
end

section
/-! PROOFS. Registers that a step does not read (O54, O55): a change of the frame state that keeps the
cursor is carried through the step, or ends with the frame. -/

namespace Sys2Proof.Proofs.Unread

open Sys2Proof Sys2Proof.Machine Sys2Proof.Proofs.StepParts

/-! ## A change of the frame state -/

/-- The state with its frame state changed. -/
def mapFrame (g : Frame → Frame) (s : State) : State := { s with frame := g s.frame }

/-- The change leaves the cursor alone. -/
def KeepsCursor (g : Frame → Frame) : Prop :=
  ∀ f, (g f).decoder = f.decoder ∧ (g f).state = f.state

/-- The answer is the given state with the change carried on, or without it, where the frame ended. -/
def AnswersWith (g : Frame → Frame) (r : Result) (t : State) : Prop :=
  r = .next (mapFrame g t) ∨ r = .next t

variable {g : Frame → Frame}

/-- Calibration and the idle check do not read the frame state (R122, R123). -/
theorem preOperation_mapFrame {s t : State} (h : exec (preOperation s) s = .next t) :
    exec (preOperation (mapFrame g s)) (mapFrame g s) = .next (mapFrame g t) ∧ t.frame = s.frame ∨
      exec (preOperation (mapFrame g s)) (mapFrame g s) = .next t := by
  cases first : s.timing.calibrated with
  | false =>
    rw [exec_preOperation_of_uncalibrated first] at h
    rw [exec_preOperation_of_uncalibrated (s := mapFrame g s) first]
    cases h
    exact .inl ⟨rfl, rfl⟩
  | true =>
    have sameGap : idleExceeded (mapFrame g s) = idleExceeded s := rfl
    rw [exec_preOperation_of_calibrated first] at h
    rw [exec_preOperation_of_calibrated (s := mapFrame g s) first, sameGap]
    split at h <;> cases h
    next timeout => rw [if_pos timeout]; exact .inr rfl
    next inTime => rw [if_neg inTime]; exact .inl ⟨rfl, rfl⟩

/-- The reset of an illegal selector reads the cursor only (R131). -/
theorem legalise_mapFrame (keeps : KeepsCursor g) {s t : State} (h : legalise s = .next t) :
    legalise (mapFrame g s) = .next (mapFrame g t) ∧ t = s ∨ legalise (mapFrame g s) = .next t := by
  obtain ⟨sameDecoder, sameState⟩ := keeps s.frame
  rw [legalise_eq] at h
  rw [legalise_eq, mapFrame, sameDecoder, sameState]
  split at h <;> cases h
  next legal => rw [if_pos legal]; exact .inl ⟨rfl, rfl⟩
  next illegal => rw [if_neg illegal]; exact .inr rfl

/-- A byte's step carries the change on when the operation run from the same frame state does. -/
theorem byteStep_mapFrame (keeps : KeepsCursor g) {s t : State}
    (run : ∀ b c, b.frame = s.frame → runOperation b = .next c →
      AnswersWith g (runOperation (mapFrame g b)) c)
    (h : byteStep s = .next t) : AnswersWith g (byteStep (mapFrame g s)) t := by
  obtain ⟨a, b, c, pre, legalised, ran, rfl⟩ := byteStep_eq_next h
  unfold AnswersWith byteStep
  rcases preOperation_mapFrame (g := g) pre with ⟨pre', frame_eq⟩ | pre' <;>
    rw [pre', andThen_next]
  case inr => rw [legalised, andThen_next, ran]; exact .inr rfl
  rcases legalise_mapFrame keeps legalised with ⟨legalised', rfl⟩ | legalised' <;>
    rw [legalised', andThen_next]
  case inr => rw [ran]; exact .inr rfl
  rcases run b c frame_eq ran with ran' | ran' <;> rw [ran']
  · exact .inl rfl
  · exact .inr rfl

/-- The operation run carries the change on when the condition logic does not read what changes, and no
operation of the selector's group does. -/
theorem runOperation_mapFrame (keeps : KeepsCursor g) {s t : State}
    (sameRow : chosenRow (mapFrame g s) = chosenRow s)
    (carries : ∀ i ∈ stepGroup s.frame.decoder s.frame.state, ∀ t, exec i s = .next t →
      AnswersWith g (exec i (mapFrame g s)) t)
    (h : runOperation s = .next t) : AnswersWith g (runOperation (mapFrame g s)) t := by
  obtain ⟨i, chosen, ran⟩ := runOperation_eq_next h
  have chosen' : chooses (mapFrame g s) i := by
    obtain ⟨sameDecoder, sameState⟩ := keeps s.frame
    rw [chooses_iff] at chosen ⊢
    rwa [sameRow, mapFrame, sameDecoder, sameState]
  rw [runOperation_of_decode chosen']
  exact carries i (mem_stepGroup_of_chooses chosen) t ran

/-- A step on a byte carries the change on when, from the same frame state, the condition logic does not
read what changes and no operation of the selector's group does. -/
theorem step_mapFrame (keeps : KeepsCursor g) {s t : State} {b : TimestampedByte}
    {rest : List HostInput} (delivered : s.input = .byte b :: rest)
    (sameRow : ∀ a, a.frame = s.frame → chosenRow (mapFrame g a) = chosenRow a)
    (carries : ∀ i ∈ stepGroup s.frame.decoder s.frame.state, ∀ a c, exec i a = .next c →
      AnswersWith g (exec i (mapFrame g a)) c)
    (h : step s = .next t) : AnswersWith g (step (mapFrame g s)) t := by
  rw [step_of_byte delivered] at h
  rw [step_of_byte (s := mapFrame g s) delivered]
  refine byteStep_mapFrame keeps (fun a c frame_eq ran => ?_) h
  refine runOperation_mapFrame keeps (sameRow a frame_eq) (fun i mem => carries i ?_ a) ran
  rwa [frame_eq] at mem

/-! ## The v1 registers in a standalone v2 frame (R35, R45) -/

/-- The frame state with other v1 registers and another v1 checksum. -/
def putV1 (v1 : V1Regs) (c : Byte) (f : Frame) : Frame := { f with v1 := v1, crc1 := c }

theorem putV1_keepsCursor (v1 : V1Regs) (c : Byte) : KeepsCursor (putV1 v1 c) :=
  fun _ => ⟨rfl, rfl⟩

theorem agreeButV1_of_answersWith {v1 : V1Regs} {c : Byte} {r : Result} {t : State}
    (h : AnswersWith (putV1 v1 c) r t) : ∃ t', r = .next t' ∧ agreeButV1 t t' ∧ t'.out = t.out := by
  rcases h with rfl | rfl
  · exact ⟨_, rfl, rfl, rfl⟩
  · exact ⟨_, rfl, rfl, rfl⟩

/-- Under the decoder `V2` no row's condition reads the v1 registers (R80, R81). -/
theorem chosenRow_putV1 (v1 : V1Regs) (c : Byte) {s : State} (decoder_eq : s.frame.decoder = .v2) :
    chosenRow (mapFrame (putV1 v1 c) s) = chosenRow s := by
  simp only [chosenRow, mapFrame, putV1, decoder_eq]
  cases s.frame.state <;> rfl

/-- From `HEADER_X` on no operation reads the v1 registers; those that end the frame reset them. -/
theorem exec_putV1 (v1 : V1Regs) (c : Byte) {s t : State} {p : ParserState} {i : Instr}
    (mem : i ∈ stepGroup .v2 p) (h : exec i s = .next t) :
    AnswersWith (putV1 v1 c) (exec i (mapFrame (putV1 v1 c) s)) t := by
  cases p <;> simp only [stepGroup, List.mem_cons, List.not_mem_nil, or_false] at mem
  case headerX | v2Size2 | v2Payload => rcases mem with rfl | rfl <;> cases h <;> exact .inl rfl
  case v2Flags | v2Func1 | v2Func2 | v2Size1 => subst mem; cases h; exact .inl rfl
  case v2Checksum => rcases mem with rfl | rfl <;> cases h <;> exact .inr rfl
  all_goals subst mem; cases h; exact .inr rfl

/-- Settles O54: the step from the other state carries the other v1 registers along, or resets them. -/
theorem standaloneV2IgnoresTheV1Registers : Obligations.StandaloneV2IgnoresTheV1Registers := by
  intro s s' t b rest agree decoder_eq delivered h
  rw [← agree]
  refine agreeButV1_of_answersWith (step_mapFrame (putV1_keepsCursor s'.frame.v1 s'.frame.crc1)
    delivered (fun a frame_eq => chosenRow_putV1 _ _ ?_)
    (fun i mem a c => exec_putV1 _ _ (decoder_eq ▸ mem)) h)
  rw [frame_eq]; exact decoder_eq

/-! ## The v2 registers in a plain v1 frame (R35, R45) -/

/-- The frame state with other v2 registers and another v2 checksum. -/
def putV2 (v2 : V2Regs) (c : Byte) (f : Frame) : Frame := { f with v2 := v2, crc2 := c }

theorem putV2_keepsCursor (v2 : V2Regs) (c : Byte) : KeepsCursor (putV2 v2 c) :=
  fun _ => ⟨rfl, rfl⟩

theorem agreeButV2_of_answersWith {v2 : V2Regs} {c : Byte} {r : Result} {t : State}
    (h : AnswersWith (putV2 v2 c) r t) : ∃ t', r = .next t' ∧ agreeButV2 t t' ∧ t'.out = t.out := by
  rcases h with rfl | rfl
  · exact ⟨_, rfl, rfl, rfl⟩
  · exact ⟨_, rfl, rfl, rfl⟩

/-- Under the decoder `V1` no row's condition reads the v2 registers (R80, R81). -/
theorem chosenRow_putV2 (v2 : V2Regs) (c : Byte) {s : State} (decoder_eq : s.frame.decoder = .v1) :
    chosenRow (mapFrame (putV2 v2 c) s) = chosenRow s := by
  simp only [chosenRow, mapFrame, putV2, decoder_eq]
  cases s.frame.state <;> rfl

/-- On the v1 path no operation reads the v2 registers; those that end the frame reset them. -/
theorem exec_putV2 (v2 : V2Regs) (c : Byte) {s t : State} {p : ParserState} {i : Instr}
    (plain : isV1State p = true) (mem : i ∈ stepGroup .v1 p) (h : exec i s = .next t) :
    AnswersWith (putV2 v2 c) (exec i (mapFrame (putV2 v2 c) s)) t := by
  cases p <;> simp only [stepGroup, List.mem_cons, List.not_mem_nil, or_false] at mem
  case headerM | v1PayloadFunc => rcases mem with rfl | rfl | rfl <;> cases h <;> exact .inl rfl
  case v1Flags | v1PayloadSize => subst mem; cases h; exact .inl rfl
  case v1Payload => rcases mem with rfl | rfl <;> cases h <;> exact .inl rfl
  case v1Checksum => rcases mem with rfl | rfl <;> cases h <;> exact .inr rfl
  all_goals cases plain

/-- Settles O55: the step from the other state carries the other v2 registers along, or resets them. -/
theorem plainV1IgnoresTheV2Registers : Obligations.PlainV1IgnoresTheV2Registers := by
  intro s s' t b rest agree decoder_eq plain delivered h
  rw [← agree]
  refine agreeButV2_of_answersWith (step_mapFrame (putV2_keepsCursor s'.frame.v2 s'.frame.crc2)
    delivered (fun a frame_eq => chosenRow_putV2 _ _ ?_)
    (fun i mem a c => exec_putV2 _ _ plain (decoder_eq ▸ mem)) h)
  rw [frame_eq]; exact decoder_eq

end Sys2Proof.Proofs.Unread
end

section
/-! PROOFS. Big-endian values (O32, O35): the value of a field's bytes, the bytes a field of
positive width consumes, and the two-byte fields of a v2 frame. -/

namespace Sys2Proof.Proofs.BigEndian

open Sys2Proof Sys2Proof.Machine

/-! ## The value of a field's bytes (R57, R204) -/

/-- The first byte is the most significant: every byte after it multiplies its weight by 256. -/
theorem bigEndian_cons (e : TimestampedByte) (chunk : List TimestampedByte) :
    bigEndian (e :: chunk) = e.value.toNat * 256 ^ chunk.length + bigEndian chunk := by
  induction chunk using List.reverseRecOn with
  | nil => simp [bigEndian]
  | append_singleton init last ih =>
    rw [← List.cons_append, bigEndian_concat, bigEndian_concat, ih, List.length_append,
      List.length_singleton, pow_succ]
    ring

theorem bigEndian_lt (chunk : List TimestampedByte) : bigEndian chunk < 256 ^ chunk.length := by
  induction chunk using List.reverseRecOn with
  | nil => simp
  | append_singleton init last ih =>
    have byte : last.value.toNat < 256 := last.value.isLt
    rw [bigEndian_concat, List.length_append, List.length_singleton, pow_succ]
    omega

/-! ## The bytes a field consumes (R204) -/

/-- A positive width whose bytes are all left consumes exactly the width. -/
theorem fieldCount_of_fits {w : Int} {left : Nat} (positive : 0 < w) (fits : w.toNat ≤ left) :
    fieldCount w left = w.toNat := by
  have notRest : ¬ w < 0 := by omega
  rw [fieldCount, if_neg notRest, fixedCount, if_pos positive, Nat.min_eq_left fits]

/-- The walk's answer for a descriptor of positive width whose bytes the buffer still holds. -/
theorem walk_of_fits {buf : Memory} {d : FieldDesc} {pos : Nat} (lay : Layout)
    (positive : 0 < d.width) (fits : pos + d.width.toNat ≤ buf.length) :
    walk buf (d :: lay) pos =
      (d, memRead buf pos d.width.toNat) :: walk buf lay (pos + d.width.toNat) := by
  have count : fieldCount d.width (buf.length - pos) = d.width.toNat :=
    fieldCount_of_fits positive (by omega)
  rw [walk_consume buf d lay pos (by omega) (by omega), count]

/-- Settles O32: a field is its bytes in order, and their value is big-endian. -/
theorem fieldValueIsBigEndian : Obligations.FieldValueIsBigEndian := by
  refine ⟨fun buf d lay pos positive fits => ?_, bigEndian_nil,
    fun e chunk => ⟨bigEndian_cons e chunk, bigEndian_lt chunk⟩⟩
  have len : (memRead buf pos d.width.toNat).length = d.width.toNat :=
    memRead_length buf pos d.width.toNat fits
  refine ⟨_, _, walk_of_fits lay positive fits, len, fun k inside => ?_⟩
  rw [memRead_getElem?, if_pos (len ▸ inside), entryAt]

/-! ## The two-byte fields (R56, R77) -/

/-- The two bytes of a field occupy disjoint halves of the register. -/
theorem toNat_withLowByte_highByte (hi lo : Byte) :
    (withLowByte (highByte hi) lo).toNat = 256 * hi.toNat + lo.toNat := by
  have hiByte := hi.isLt
  have loByte := lo.isLt
  have shifted : (highByte hi).toNat = hi.toNat <<< 8 := by
    simp only [highByte, BitVec.toNat_shiftLeft, BitVec.toNat_setWidth, Nat.shiftLeft_eq]
    omega
  have extended : (lo.setWidth 16).toNat = lo.toNat := by
    rw [BitVec.toNat_setWidth]; omega
  rw [withLowByte, BitVec.toNat_or, shifted, extended, ← Nat.shiftLeft_add_eq_or_of_lt loByte,
    Nat.shiftLeft_eq, Nat.mul_comm]

@[simp] theorem takeV2Func1_funcAcc (s : State) :
    (takeV2Func1 s).frame.v2.funcAcc = highByte s.cur.value := rfl

@[simp] theorem takeV2Func2_funcAcc (s : State) :
    (takeV2Func2 s).frame.v2.funcAcc = withLowByte s.frame.v2.funcAcc s.cur.value := rfl

@[simp] theorem takeV2Size1_lenAcc (s : State) :
    (takeV2Size1 s).frame.v2.lenAcc = highByte s.cur.value := rfl

@[simp] theorem takeV2Size2Payload_lenAcc (s : State) :
    (takeV2Size2Payload s).frame.v2.lenAcc = len16 s := rfl

@[simp] theorem takeV2Size2Payload_expectedLen (s : State) :
    (takeV2Size2Payload s).frame.v2.expectedLen = (len16 s).toNat := rfl

@[simp] theorem takeV2Size2Empty_lenAcc (s : State) :
    (takeV2Size2Empty s).frame.v2.lenAcc = len16 s := rfl

@[simp] theorem takeV2Size2Empty_expectedLen (s : State) :
    (takeV2Size2Empty s).frame.v2.expectedLen = 0 := rfl

/-- The wrapper of R180 leaves the v2 registers to the inner operation. -/
@[simp] theorem encapsulate_v2 (inner : State → State) (n : InnerNext) (s : State) :
    (encapsulate inner n s).frame.v2 = (inner (bumpV1 (foldCrc1 s))).frame.v2 := by
  rw [encapsulate_eq]; rfl

/-- The outer fold and count of R180 touch neither half of the inner length. -/
@[simp] theorem len16_bumpV1_foldCrc1 (s : State) : len16 (bumpV1 (foldCrc1 s)) = len16 s := rfl

/-- Whichever inner operation it chooses, `E.SIZE2` leaves the completed length in both registers:
the empty one is chosen for length 0 only (R185). -/
theorem execESize2_length (s : State) :
    ∃ u, exec .eSize2 s = .next u ∧ u.frame.v2.lenAcc = len16 s ∧
      u.frame.v2.expectedLen = (len16 s).toNat := by
  simp only [exec, execESize2]
  split
  next empty => exact ⟨_, rfl, by simp, by simp [empty]⟩
  next => exact ⟨_, rfl, by simp, by simp⟩

/-- The length that a second byte completes, once the first is in the accumulator. -/
theorem toNat_len16 {t : State} {hi : Byte} (b : TimestampedByte)
    (first : t.frame.v2.lenAcc = highByte hi) :
    (len16 { t with cur := b }).toNat = 256 * hi.toNat + b.value.toNat := by
  rw [len16, first, toNat_withLowByte_highByte]

/-- Settles O35: the first byte received is the more significant. -/
theorem twoByteFieldsAreBigEndian : Obligations.TwoByteFieldsAreBigEndian := by
  intro s t b
  refine ⟨fun h => ?v2Func, fun h => ?v2Size, fun h => ?eFunc, fun h => ?eSize⟩ <;> cases h
  case v2Func =>
    exact ⟨_, rfl, toNat_withLowByte_highByte s.cur.value b.value⟩
  case v2Size =>
    have len := toNat_len16 (t := setState .v2Size2 (takeV2Size1 s)) b rfl
    exact ⟨_, rfl, len, len⟩
  case eFunc =>
    refine ⟨_, rfl, ?_⟩
    simp [toNat_withLowByte_highByte]
  case eSize =>
    have len := toNat_len16 (t := encapsulate takeV2Size1 (.goto .v2Size2) s) (hi := s.cur.value) b
      (by simp)
    obtain ⟨u, ran, acc, expected⟩ :=
      execESize2_length { encapsulate takeV2Size1 (.goto .v2Size2) s with cur := b }
    exact ⟨u, ran, acc ▸ len, expected.trans len⟩

end Sys2Proof.Proofs.BigEndian
end

section
/-! PROOFS. The payload buffer (O40, O48): its bound by the counters, and what each operation does
to it: append the current byte, clear, or leave it. -/

namespace Sys2Proof.Proofs.Buffer

open Sys2Proof Sys2Proof.Machine Sys2Proof.Proofs.Registers

/-! ## The capacity (R52) -/

/-- In a v1 frame, plain or encapsulating, the v1 count bounds the buffer. -/
theorem buffer_length_of_v1 {s : State} (inv : SessionInv s) (decoder_eq : s.frame.decoder = .v1) :
    s.frame.payloadBuffer.length ≤ 255 :=
  calc s.frame.payloadBuffer.length
      _ ≤ s.frame.v1.receivedCount := inv.v1Buffer decoder_eq
      _ ≤ s.frame.v1.expectedLen := inv.v1Count
      _ ≤ 255 := inv.v1Width

/-- In a standalone v2 frame the v2 count bounds the buffer. -/
theorem buffer_length_of_v2 {s : State} (inv : SessionInv s) (decoder_eq : s.frame.decoder = .v2) :
    s.frame.payloadBuffer.length ≤ bufDepth :=
  calc s.frame.payloadBuffer.length
      _ ≤ s.frame.v2.receivedCount := inv.v2Buffer decoder_eq
      _ ≤ s.frame.v2.expectedLen := inv.v2Count
      _ ≤ bufDepth := inv.v2Width

/-- Before a decoder is selected the frame state is at rest (R42, R125). -/
theorem buffer_eq_nil_of_none {s : State} (inv : SessionInv s)
    (decoder_eq : s.frame.decoder = .none) : s.frame.payloadBuffer = [] := by
  have cursor : s.frame.state = .idle ∨ s.frame.state = .start := by
    simpa [decoder_eq, legalPair] using inv.legal
  rcases cursor with idle | start
  · rw [inv.rest idle]; rfl
  · rw [inv.started start]; rfl

/-- Settles O40, decoder by decoder: the reserved one has no legal cursor. -/
theorem bufferNeverOverflows : Obligations.BufferNeverOverflows := by
  refine fun s inv => ⟨?_, buffer_length_of_v1 inv⟩
  rw [Memory.wf, decide_eq_true_iff]
  cases decoder_eq : s.frame.decoder with
  | none => simp [buffer_eq_nil_of_none inv decoder_eq]
  | v1 => exact (buffer_length_of_v1 inv decoder_eq).trans (by decide)
  | v2 => exact buffer_length_of_v2 inv decoder_eq
  | reserved =>
    have legal := inv.legal
    rw [decoder_eq] at legal
    cases legal

/-! ## What an operation does to the buffer (R51, R53) -/

/-- The wrapper of R180 leaves the buffer to the inner operation. -/
theorem encapsulate_payloadBuffer (inner : State → State) (n : InnerNext) (s : State) :
    (encapsulate inner n s).frame.payloadBuffer =
      (inner (bumpV1 (foldCrc1 s))).frame.payloadBuffer := by
  rw [encapsulate_eq]; rfl

/-- Each of the five appending operations is `BufAppend` of the current byte, as far as the buffer
goes (R51). -/
theorem exec_buffer_of_appends {i : Instr} {s t : State} (appending : appends i = true)
    (h : exec i s = .next t) :
    t.frame.payloadBuffer = (bufAppend s.cur s).frame.payloadBuffer := by
  cases i with
  | v1PayloadMore | v1PayloadLast | v2PayloadMore | v2PayloadLast => cases h; rfl
  | ePayload =>
    simp only [exec, execEPayload] at h
    split at h <;> cases h <;> exact encapsulate_payloadBuffer takeV2Payload _ s
  | _ => cases appending

/-- Every operation with `BufClear()` or `FrameReset()` leaves no entry (R53). -/
theorem exec_buffer_of_clears {i : Instr} {s t : State} (clearing : clears i = true)
    (h : exec i s = .next t) : t.frame.payloadBuffer = [] := by
  cases i with
  | v1Size | v2Size2Payload | v2Size2Empty | idleStart | illegal | v1ChecksumOk | v1ChecksumErr
  | v2ChecksumOk | v2ChecksumErr => cases h; rfl
  | eSize2 =>
    simp only [exec, execESize2] at h
    split at h <;> cases h
    · exact encapsulate_payloadBuffer takeV2Size2Empty _ s
    · exact encapsulate_payloadBuffer takeV2Size2Payload _ s
  | _ => cases clearing

/-- `TIMEOUT` resets the frame exactly when the gap exceeds the window (R123). -/
theorem exec_timeout_buffer {s t : State} (h : exec .timeout s = .next t) :
    t.frame.payloadBuffer = if idleExceeded s then [] else s.frame.payloadBuffer := by
  simp only [exec, execTimeout] at h
  split at h
  next exceeded => cases h; rw [if_pos exceeded]; rfl
  next within => cases h; rw [if_neg within]

/-- No other row of R48's table lists the buffer. -/
theorem payloadBuffer_notMem_writes {i : Instr} (notAppending : appends i = false)
    (notClearing : clears i = false) (notTimeout : i ≠ .timeout) :
    Register.payloadBuffer ∉ writes i := by
  cases i with
  | timeout => exact absurd rfl notTimeout
  | v1PayloadMore | v1PayloadLast | v2PayloadMore | v2PayloadLast | ePayload => cases notAppending
  | v1Size | v2Size2Payload | v2Size2Empty | eSize2 | idleStart | illegal | v1ChecksumOk
  | v1ChecksumErr | v2ChecksumOk | v2ChecksumErr => cases notClearing
  | _ => simp only [writes]; decide

/-- Settles O48: append at the end, clear, or nothing, by what the operation's row lists. -/
theorem bufferIsWrittenAtItsEndOnly : Obligations.BufferIsWrittenAtItsEndOnly := by
  intro i s t h
  refine ⟨fun appending => ?_, fun clearing => exec_buffer_of_clears clearing h, ?_, ?_⟩
  · rw [exec_buffer_of_appends appending h]
    exact ⟨by simp, entryAt_bufAppend s.cur s⟩
  · rintro rfl
    exact exec_timeout_buffer h
  · intro notAppending notClearing notTimeout a
    have kept : t.frame.payloadBuffer = s.frame.payloadBuffer :=
      exec_changesOnly h .payloadBuffer
        (payloadBuffer_notMem_writes notAppending notClearing notTimeout)
    rw [kept]

end Sys2Proof.Proofs.Buffer
end

section
/-! PROOFS. The decoder and the encoder (O44, O45, O46): what the decoder reads of a word in each of
the four formats, and that the words of a group's rows are numbered in the group's order. -/

namespace Sys2Proof.Proofs.OperationWord

open Sys2Proof Sys2Proof.Machine Sys2Proof.Proofs.StepParts

/-! ## The fields of a word (R78, R79) -/

@[simp] theorem stateCode_stateOfCode (c : BitVec 4) : stateCode (stateOfCode c) = c := by
  revert c; decide

@[simp] theorem decoderCode_decoderOfCode (c : BitVec 2) : decoderCode (decoderOfCode c) = c := by
  revert c; decide

/-- The place of a high byte of two fields. -/
@[simp] theorem place_append (format k : BitVec 4) : (format ++ k).extractLsb' 0 4 = k :=
  BitVec.extractLsb'_append_eq_right

/-- The format of a high byte of two fields. -/
@[simp] theorem format_append (format k : BitVec 4) : (format ++ k).extractLsb' 4 4 = format :=
  BitVec.extractLsb'_append_eq_left

theorem format_append_place (hi : Byte) : hi.extractLsb' 4 4 ++ hi.extractLsb' 0 4 = hi :=
  (BitVec.extractLsb'_append_extractLsb'_eq_extractLsb' rfl).trans BitVec.extractLsb'_eq_self

/-- The state field of the low byte. -/
@[simp] theorem stateField_of_lowByte (d : DecoderTag) (p : ParserState) :
    ((0#2) ++ selector d p).extractLsb' 0 4 = stateCode p :=
  (BitVec.extractLsb'_append_eq_of_add_le (by decide)).trans BitVec.extractLsb'_append_eq_right

/-- The decoder field of the low byte. -/
@[simp] theorem decoderField_of_lowByte (d : DecoderTag) (p : ParserState) :
    ((0#2) ++ selector d p).extractLsb' 4 2 = decoderCode d :=
  (BitVec.extractLsb'_append_eq_of_add_le (by decide)).trans BitVec.extractLsb'_append_eq_left

/-- The selector of the cursor that a low byte's fields name is its bits 5..0. -/
theorem selector_of_fields (lo : Byte) :
    selector (decoderOfCode (lo.extractLsb' 4 2)) (stateOfCode (lo.extractLsb' 0 4)) =
      lo.extractLsb' 0 6 := by
  rw [selector, decoderCode_decoderOfCode, stateCode_stateOfCode]
  exact BitVec.extractLsb'_append_extractLsb'_eq_extractLsb' rfl

/-! ## What the decoder reads -/

theorem funcAt_eq_ok {k : Nat} {tail rest : List Byte} {i : Instr} :
    funcAt k tail = .ok (i, rest) ↔
      ∃ f c v, funcGroup[k]? = some f ∧ f c v = i ∧ tail = c :: v :: rest := by
  unfold funcAt
  split
  next f c v _ row => simp [row]
  next row short =>
    refine iff_of_false nofun ?_
    rintro ⟨f, c, v, -, -, rfl⟩
    exact short c v _ rfl
  next noRow => simp [noRow]

section

variable (k : BitVec 4) (rest : List Byte)

/-- A `STEP` word decodes to its place within its selector's group, whatever follows. -/
theorem decode_stepWord (d : DecoderTag) (p : ParserState) :
    decode (stepWord d p k ++ rest) = rowAt (stepGroup d p) k.toNat rest := by
  simp [stepWord, decode]

theorem decode_preWord : decode (plainWord 1#4 k ++ rest) = rowAt preGroup k.toNat rest := by
  simp [plainWord, decode]

theorem decode_funcWord : decode (plainWord 2#4 k ++ rest) = funcAt k.toNat rest := by
  simp [plainWord, decode]

theorem decode_fieldWord : decode (plainWord 3#4 k ++ rest) = rowAt fieldGroup k.toNat rest := by
  simp [plainWord, decode]

end

/-- What a word that decodes can be: a row of one of the four formats' groups. -/
theorem decode_eq_ok {lo hi : Byte} {tail rest : List Byte} {i : Instr}
    (h : decode (lo :: hi :: tail) = .ok (i, rest)) :
    let k := hi.extractLsb' 0 4
    let group := stepGroup (decoderOfCode (lo.extractLsb' 4 2)) (stateOfCode (lo.extractLsb' 0 4))
    hi = (0#4) ++ k ∧ group[k.toNat]? = some i ∧ tail = rest ∨
      hi = (1#4) ++ k ∧ preGroup[k.toNat]? = some i ∧ tail = rest ∨
      hi = (2#4) ++ k ∧
        (∃ f c v, funcGroup[k.toNat]? = some f ∧ f c v = i ∧ tail = c :: v :: rest) ∨
      hi = (3#4) ++ k ∧ fieldGroup[k.toNat]? = some i ∧ tail = rest := by
  have hi_eq {format : BitVec 4} (format_eq : (hi.extractLsb' 4 4).toNat = format.toNat) :
      hi = format ++ hi.extractLsb' 0 4 := by
    rw [← BitVec.eq_of_toNat_eq format_eq, format_append_place]
  simp only [decode] at h
  split at h
  next format_eq => exact .inl ⟨hi_eq format_eq, rowAt_eq_ok.mp h⟩
  next format_eq => exact .inr (.inl ⟨hi_eq format_eq, rowAt_eq_ok.mp h⟩)
  next format_eq => exact .inr (.inr (.inl ⟨hi_eq format_eq, funcAt_eq_ok.mp h⟩))
  next format_eq => exact .inr (.inr (.inr ⟨hi_eq format_eq, rowAt_eq_ok.mp h⟩))
  next => cases h

/-! ## The words of a group's rows -/

/-- The rows a selector can choose are well formed, and their words are numbered in the table's
order. -/
theorem encode_of_stepGroup {d : DecoderTag} {p : ParserState} {k : BitVec 4} {i : Instr}
    (row : (stepGroup d p)[k.toNat]? = some i) : i.wf = true ∧ encode i = stepWord d p k := by
  revert k i
  cases d <;> cases p <;> decide

theorem encode_of_preGroup {k : BitVec 4} {i : Instr} (row : preGroup[k.toNat]? = some i) :
    i.wf = true ∧ encode i = plainWord 1#4 k := by
  revert k i; decide

theorem encode_of_funcGroup {k : BitVec 4} {f : Byte → Byte → Instr}
    (row : funcGroup[k.toNat]? = some f) (c v : Byte) :
    (f c v).wf = true ∧ encode (f c v) = plainWord 2#4 k ++ [c, v] := by
  have place : k = 0#4 ∨ k = 1#4 := by
    have inGroup : k.toNat < 2 := (List.getElem?_eq_some_iff.mp row).1
    bv_omega
  rcases place with rfl | rfl <;> cases row <;> exact ⟨rfl, rfl⟩

theorem encode_of_fieldGroup {k : BitVec 4} {i : Instr} (row : fieldGroup[k.toNat]? = some i) :
    i.wf = true ∧ encode i = plainWord 3#4 k := by
  revert k i; decide

/-! ## The round trips -/

/-- Settles O44: the words of an operation name its format's group and its place there, where the
decoder finds it; the group of an illegal selector is `ILLEGAL` alone. -/
theorem decodeInvertsEncode : Obligations.DecodeInvertsEncode := by
  intro i rest wf
  cases i with
  | calibrate | timeout => exact decode_preWord _ rest
  | xor8 c v | crc8 c v => exact decode_funcWord _ (c :: v :: rest)
  | fdRun | fdOpaque | fdSkip | fdFixedw | fdRest | fdIText | fdIFixed | fdIIndex | fdIMap
  | fdIRaw =>
    exact decode_fieldWord _ rest
  | illegal d p =>
    have illegal : legalPair d p = false := by simpa [Instr.wf] using wf
    refine (decode_stepWord 0 rest d p).trans ?_
    rw [stepGroup_of_illegal illegal]
    rfl
  | _ => exact decode_stepWord _ rest _ _

/-- The canonical word of a row without selector has the word's high byte, and its low byte is not
examined. -/
theorem agrees_of_plainWord {lo hi : Byte} {format k : BitVec 4} {words tail : List Byte}
    (hi_eq : hi = format ++ k) (selectorless : format ≠ 0#4)
    (canonical : words = plainWord format k ++ tail) :
    ∃ lo' : Byte,
      words = lo' :: hi :: tail ∧
        (hi.extractLsb' 4 4 = 0#4 → lo'.extractLsb' 0 6 = lo.extractLsb' 0 6) := by
  refine ⟨0#8, by rw [canonical, hi_eq]; rfl, fun step => absurd ?_ selectorless⟩
  rwa [hi_eq, format_append] at step

/-- Settles O45: a word that decodes is a row of a group, and that row's word differs from it at most
in the bits of the low byte that its format does not examine. -/
theorem encodeInvertsDecode : Obligations.EncodeInvertsDecode := by
  intro lo hi tail rest i h
  rcases decode_eq_ok h with ⟨hi_eq, row, rfl⟩ | ⟨hi_eq, row, rfl⟩ |
    ⟨hi_eq, f, c, v, row, rfl, rfl⟩ | ⟨hi_eq, row, rfl⟩
  case inl =>
    obtain ⟨wf, words⟩ := encode_of_stepGroup row
    refine ⟨wf, (0#2) ++ lo.extractLsb' 0 6, ?_, fun _ => BitVec.extractLsb'_append_eq_right⟩
    rw [words, stepWord, selector_of_fields, ← hi_eq]
    rfl
  case inr.inl =>
    obtain ⟨wf, words⟩ := encode_of_preGroup row
    exact ⟨wf, agrees_of_plainWord hi_eq (by decide) (by rw [words])⟩
  case inr.inr.inl =>
    obtain ⟨wf, words⟩ := encode_of_funcGroup row c v
    exact ⟨wf, agrees_of_plainWord hi_eq (by decide) (by rw [words, List.append_assoc]; rfl)⟩
  case inr.inr.inr =>
    obtain ⟨wf, words⟩ := encode_of_fieldGroup row
    exact ⟨wf, agrees_of_plainWord hi_eq (by decide) (by rw [words])⟩

/-- Settles O46: each word is read field by field, down to its row or its refusal. -/
theorem writtenOutWordsDecode : Obligations.WrittenOutWordsDecode :=
  ⟨rfl, rfl, rfl, rfl, rfl, rfl, rfl, rfl⟩

end Sys2Proof.Proofs.OperationWord
end

section
/-! PROOFS. The operation map (O42, O43): the row whose condition holds is the one the condition
logic chooses, and its next cursor is the one the operation leaves. -/

namespace Sys2Proof.Proofs.OperationMap

open Sys2Proof Sys2Proof.Machine Sys2Proof.Proofs.StepParts

/-! ## The row that is chosen (R80, R81) -/

/-- A consistent configuration names its flags-bearing transport type (R9). -/
theorem lookupTransportType_of_flagsVariant {c : Cfg} {v : Byte} (consistent : c.wf = true)
    (flags : c.ttFlagsVariant = some v) : lookupTransportType c v ≠ none := by
  rw [Cfg.wf, flags] at consistent
  exact Option.isSome_iff_ne_none.mp consistent

/-- The operation whose row's condition holds is chosen. That the flags-bearing transport type has a
name keeps `HM.INVALID` apart from `HM.FLAGSVAR`. -/
theorem chooses_of_rowCondition {s : State} {i : Instr} (consistent : Cfg.wf s.cfg = true)
    (h : rowCondition i s) : chooses s i := by
  cases i with
  | idleStart | idleSkip =>
    obtain ⟨⟨decoder_eq, state_eq⟩, cond⟩ := h
    simp [chooses_iff, stepGroup, chosenRow, decoder_eq, state_eq, isStart_iff, cond]
  | startV1 | startV2 | startOther | v1FuncEmpty | v1ChecksumOk | v1ChecksumErr | v2ChecksumOk
  | v2ChecksumErr =>
    obtain ⟨⟨decoder_eq, state_eq⟩, cond⟩ := h
    simp [chooses_iff, stepGroup, chosenRow, decoder_eq, state_eq, cond]
  | hmFlagsvar =>
    obtain ⟨⟨decoder_eq, state_eq⟩, flags⟩ := h
    simp [chooses_iff, stepGroup, chosenRow, decoder_eq, state_eq, isFlagsVar_iff, flags]
  | hmKnown =>
    obtain ⟨⟨decoder_eq, state_eq⟩, known, noFlags⟩ := h
    simp [chooses_iff, stepGroup, chosenRow, decoder_eq, state_eq, isFlagsVar_iff, noFlags,
      Option.isSome_iff_ne_none, known]
  | hmInvalid =>
    obtain ⟨⟨decoder_eq, state_eq⟩, unknown⟩ := h
    have noFlags : s.cfg.ttFlagsVariant ≠ some s.cur.value := fun flags =>
      lookupTransportType_of_flagsVariant consistent flags unknown
    simp [chooses_iff, stepGroup, chosenRow, decoder_eq, state_eq, isFlagsVar_iff, noFlags, unknown]
  | hxKnown | hxInvalid =>
    obtain ⟨⟨decoder_eq, state_eq⟩, cond⟩ := h
    simp [chooses_iff, stepGroup, chosenRow, decoder_eq, state_eq, Option.isSome_iff_ne_none, cond]
  | v1FuncPayload | v1FuncEncap =>
    obtain ⟨⟨decoder_eq, state_eq⟩, nonempty, cond⟩ := h
    simp [chooses_iff, stepGroup, chosenRow, decoder_eq, state_eq, nonempty.ne', isEncapFunc_iff,
      cond]
  | v1PayloadMore | v1PayloadLast =>
    obtain ⟨⟨decoder_eq, state_eq⟩, cond⟩ := h
    simp [chooses_iff, stepGroup, chosenRow, decoder_eq, state_eq, v1Last_iff, cond]
  | v2PayloadMore | v2PayloadLast =>
    obtain ⟨⟨decoder_eq, state_eq⟩, cond⟩ := h
    simp [chooses_iff, stepGroup, chosenRow, decoder_eq, state_eq, v2Last_iff, cond]
  | v2Size2Payload =>
    obtain ⟨⟨decoder_eq, state_eq⟩, nonempty⟩ := h
    simp [chooses_iff, stepGroup, chosenRow, decoder_eq, state_eq, len16_eq_zero_iff, nonempty.ne']
  | v2Size2Empty =>
    obtain ⟨⟨decoder_eq, state_eq⟩, empty⟩ := h
    simp [chooses_iff, stepGroup, chosenRow, decoder_eq, state_eq, len16_eq_zero_iff, empty]
  | v1Flags | v1Size | v2Flags | v2Func1 | v2Func2 | v2Size1 | eFlags | eFunc1 | eFunc2 | eSize1
  | eSize2 | ePayload | eChecksum =>
    obtain ⟨decoder_eq, state_eq⟩ := h
    simp [chooses_iff, stepGroup, chosenRow, decoder_eq, state_eq]
  | illegal d p =>
    obtain ⟨⟨rfl, rfl⟩, illegal⟩ := h
    simp [chooses_iff, stepGroup_of_illegal illegal, chosenRow_of_illegal illegal]
  | _ => exact h.elim

/-- Settles O42: the condition of the row chosen holds, and no other row's does. -/
theorem operationMapChoosesTheRow : Obligations.OperationMapChoosesTheRow :=
  fun _ _ consistent => ⟨rowCondition_of_chooses, chooses_of_rowCondition consistent⟩

/-! ## The next cursor (R81, R180) -/

/-- The state that an encapsulated operation goes to while the outer payload is open (R180). -/
def innerTarget : InnerNext → ParserState
  | .done => .v1Payload
  | .goto p => p

/-- The wrapper keeps the decoder, and the outer count with the current byte decides the next state
first. -/
theorem encapsulate_cursorAt {inner : State → State} {d : DecoderTag} {s : State} (n : InnerNext)
    (outerKept : ∀ u, (inner u).frame.decoder = u.frame.decoder ∧ (inner u).frame.v1 = u.frame.v1)
    (decoder_eq : s.frame.decoder = d) :
    cursorAt (encapsulate inner n s) d (outerNext s (innerTarget n)) := by
  obtain ⟨decoder_kept, v1_kept⟩ := outerKept (bumpV1 (foldCrc1 s))
  rw [encapsulate_eq, v1_kept]
  refine ⟨decoder_kept.trans decoder_eq, ?_⟩
  cases n <;> rfl

/-- After an operation whose row's condition held, the cursor is the one its row names. -/
theorem cursorAt_of_rowNext {i : Instr} {s t : State} (cond : rowCondition i s)
    (h : exec i s = .next t) : ∃ d p, rowNext i s = some (d, p) ∧ cursorAt t d p := by
  cases i with
  | idleStart | startV1 | startV2 | illegal | v1ChecksumOk | v1ChecksumErr | v2ChecksumOk
  | v2ChecksumErr =>
    cases h; exact ⟨_, _, rfl, rfl, rfl⟩
  | idleSkip | startOther | v1PayloadMore | v2PayloadMore =>
    obtain ⟨⟨decoder_eq, state_eq⟩, -⟩ := cond
    cases h; exact ⟨_, _, rfl, decoder_eq, state_eq⟩
  | hmFlagsvar | hmKnown | hmInvalid | v1FuncPayload | v1FuncEmpty | v1FuncEncap | v1PayloadLast
  | hxKnown | hxInvalid | v2Size2Payload | v2Size2Empty | v2PayloadLast =>
    obtain ⟨⟨decoder_eq, -⟩, -⟩ := cond
    cases h; exact ⟨_, _, rfl, decoder_eq, rfl⟩
  | v1Flags | v1Size | v2Flags | v2Func1 | v2Func2 | v2Size1 =>
    obtain ⟨decoder_eq, -⟩ := cond
    cases h; exact ⟨_, _, rfl, decoder_eq, rfl⟩
  | eFlags | eFunc1 | eFunc2 | eSize1 =>
    obtain ⟨decoder_eq, -⟩ := cond
    cases h; exact ⟨_, _, rfl, encapsulate_cursorAt (.goto _) (fun _ => ⟨rfl, rfl⟩) decoder_eq⟩
  | eSize2 =>
    obtain ⟨decoder_eq, -⟩ := cond
    simp only [exec, execESize2, len16_eq_zero_iff] at h
    refine ⟨_, _, rfl, ?_⟩
    split at h <;> cases h
    next empty =>
      rw [if_pos empty]
      exact encapsulate_cursorAt (.goto _) (fun _ => ⟨rfl, rfl⟩) decoder_eq
    next nonempty =>
      rw [if_neg nonempty]
      exact encapsulate_cursorAt (.goto _) (fun _ => ⟨rfl, rfl⟩) decoder_eq
  | ePayload =>
    obtain ⟨decoder_eq, -⟩ := cond
    simp only [exec, execEPayload, v2Last_iff] at h
    refine ⟨_, _, rfl, ?_⟩
    split at h <;> cases h
    next last =>
      rw [if_pos last]
      exact encapsulate_cursorAt (.goto _) (fun _ => ⟨rfl, rfl⟩) decoder_eq
    next more =>
      rw [if_neg more]
      exact encapsulate_cursorAt (.goto _) (fun _ => ⟨rfl, rfl⟩) decoder_eq
  | eChecksum =>
    obtain ⟨decoder_eq, -⟩ := cond
    simp only [exec, execEChecksum] at h
    split at h <;> cases h
    all_goals
      exact ⟨_, _, rfl, encapsulate_cursorAt .done (fun _ => ⟨rfl, rfl⟩) decoder_eq⟩
  | _ => exact cond.elim

/-- Settles O43: the cursor after the operation is the one its row names. -/
theorem operationMapNamesTheNextCursor : Obligations.OperationMapNamesTheNextCursor := by
  intro s t i cond h
  obtain ⟨_, _, next_eq, rfl, rfl⟩ := cursorAt_of_rowNext cond h
  exact next_eq

end Sys2Proof.Proofs.OperationMap
end

section
/-! PROOFS. The labels of a step (O56): every operation but `V1.PAYLOAD.LAST` emits one label at
most, and the step's labels are those of the one operation that it runs after the pre-step. -/

namespace Sys2Proof.Proofs.Labels

open Sys2Proof Sys2Proof.Machine Sys2Proof.Proofs.StepParts Sys2Proof.Proofs.Registers

/-! ## The operations -/

/-- At most one label is emitted between the two states. -/
def EmitsAtMostOne (s t : State) : Prop := t.out.length ≤ s.out.length + 1

theorem emitsAtMostOne_of_same {s t : State} (h : t.out = s.out) : EmitsAtMostOne s t := by
  rw [EmitsAtMostOne, h]; exact Nat.le_succ _

theorem emitsAtMostOne_of_concat {s t : State} {label : LabeledField}
    (h : t.out = s.out ++ [label]) : EmitsAtMostOne s t := by
  rw [EmitsAtMostOne, h, List.length_append]; exact Nat.le_refl _

/-- The wrapper of R180 emits what its inner operation emits. -/
theorem encapsulate_out (inner : State → State) (n : InnerNext) (s : State) :
    (encapsulate inner n s).out = (inner (bumpV1 (foldCrc1 s))).out := by
  rw [encapsulate_eq, setState_out]

/-- Only the operation that runs the field decoder can emit more than one label (R149). -/
theorem exec_emitsAtMostOne {i : Instr} {s t : State} (h : exec i s = .next t)
    (noDecoder : i ≠ .v1PayloadLast) : EmitsAtMostOne s t := by
  cases i with
  | idleStart | startV1 | startV2 | hmFlagsvar | hmKnown | hmInvalid | v1Flags | v1Size
  | v1FuncPayload | v1FuncEmpty | v1FuncEncap | v1ChecksumOk | v1ChecksumErr | hxKnown | hxInvalid
  | v2Flags | v2Func2 | v2Size2Payload | v2Size2Empty | v2PayloadMore | v2PayloadLast | v2ChecksumOk
  | v2ChecksumErr =>
    cases h; exact emitsAtMostOne_of_concat rfl
  | eFlags | eFunc2 => cases h; exact emitsAtMostOne_of_concat (encapsulate_out _ _ s)
  | eSize2 =>
    simp only [exec, execESize2] at h
    split at h <;> cases h <;> exact emitsAtMostOne_of_concat (encapsulate_out _ _ s)
  | ePayload =>
    simp only [exec, execEPayload] at h
    split at h <;> cases h <;> exact emitsAtMostOne_of_concat (encapsulate_out _ _ s)
  | eChecksum =>
    simp only [exec, execEChecksum] at h
    split at h <;> cases h <;> exact emitsAtMostOne_of_concat (encapsulate_out _ _ s)
  | v1PayloadLast => exact absurd rfl noDecoder
  | _ => exact emitsAtMostOne_of_same (exec_changesOnly h .out (by simp only [writes]; decide))

/-! ## The step -/

/-- After the pre-step the state is the prepared one (R120, R122, R123). -/
theorem exec_preOperation_latch (b : TimestampedByte) (rest : List HostInput) (s : State) :
    exec (preOperation (latch b rest s)) (latch b rest s) = .next (prepared b rest s) := by
  cases first : s.timing.calibrated with
  | false =>
    rw [exec_preOperation_of_uncalibrated (s := latch b rest s) first]
    simp only [prepared, first]
    rfl
  | true =>
    rw [exec_preOperation_of_calibrated (s := latch b rest s) first]
    simp only [prepared, first, idleExceeded_iff, latch_timing, latch_cur, if_true]
    split <;> rfl

theorem prepared_out (b : TimestampedByte) (rest : List HostInput) (s : State) :
    (prepared b rest s).out = [] := by
  unfold prepared; split <;> rfl

theorem prepared_stream (b : TimestampedByte) (rest : List HostInput) (s : State) :
    (prepared b rest s).stream = s.stream := by
  unfold prepared; split <;> rfl

/-- A step on a byte runs one chosen operation and closes: the operation runs in the prepared state,
or, where the cursor there is illegal, after the reset of its frame (R120, R131). -/
theorem step_eq_next_of_byte {s t : State} {b : TimestampedByte} {rest : List HostInput}
    (delivered : s.input = .byte b :: rest) (h : step s = .next t) :
    ∃ u c i, (u = prepared b rest s ∨ u = frameReset (prepared b rest s)) ∧ chooses u i ∧
      exec i u = .next c ∧ t = closeStep c := by
  rw [step_of_byte delivered] at h
  obtain ⟨a, u, c, pre, legalised, ran, rfl⟩ := byteStep_eq_next h
  rw [exec_preOperation_latch] at pre
  cases pre
  rw [legalise_eq] at legalised
  obtain ⟨i, chosen, ran⟩ := runOperation_eq_next ran
  refine ⟨u, c, i, ?_, chosen, ran, rfl⟩
  split at legalised <;> cases legalised
  · exact .inl rfl
  · exact .inr rfl

/-- No operation writes the stream (R63). -/
theorem exec_stream {i : Instr} {s t : State} (h : exec i s = .next t) : t.stream = s.stream := by
  refine exec_changesOnly h .stream ?_
  cases i <;> simp only [writes] <;> decide

/-- From the reset frame the field decoder is not run. -/
theorem not_chooses_v1PayloadLast_frameReset (s : State) :
    ¬ chooses (frameReset s) .v1PayloadLast := by
  intro chosen
  obtain ⟨⟨decoder_eq, -⟩, -⟩ := rowCondition_of_chooses chosen
  cases decoder_eq

theorem step_stream_of_byte {s t : State} {b : TimestampedByte} {rest : List HostInput}
    (delivered : s.input = .byte b :: rest) (h : step s = .next t) :
    t.stream = s.stream ++ t.out := by
  obtain ⟨u, c, i, u_eq, -, ran, rfl⟩ := step_eq_next_of_byte delivered h
  have kept : u.stream = s.stream := by
    rcases u_eq with rfl | rfl <;> exact prepared_stream b rest s
  rw [closeStep_stream, closeStep_out, exec_stream ran, kept]

/-- Settles O56: the stream grows by the step's labels, which are those of the one operation run. -/
theorem labelsAreNeverRetracted : Obligations.LabelsAreNeverRetracted := by
  refine ⟨fun s t h => ?_, fun s t b rest delivered h => ⟨step_stream_of_byte delivered h, ?_⟩⟩
  · cases delivered : s.input with
    | nil =>
      rw [step_of_no_input delivered] at h
      cases h
      exact ⟨[], List.append_nil _⟩
    | cons e rest =>
      cases e with
      | reset =>
        rw [step_of_reset delivered] at h
        cases h
        exact ⟨[], List.append_nil _⟩
      | byte b => exact ⟨t.out, (step_stream_of_byte delivered h).symm⟩
  · obtain ⟨u, c, i, u_eq, chosen, ran, rfl⟩ := step_eq_next_of_byte delivered h
    have empty : u.out = [] := by rcases u_eq with rfl | rfl <;> exact prepared_out b rest s
    by_cases decoder : i = .v1PayloadLast
    · subst decoder
      rcases u_eq with rfl | rfl
      · exact .inr chosen
      · exact absurd chosen (not_chooses_v1PayloadLast_frameReset _)
    · have one : c.out.length ≤ u.out.length + 1 := exec_emitsAtMostOne ran decoder
      rw [empty] at one
      exact .inl one

end Sys2Proof.Proofs.Labels
end

section
/-! PROOFS. The checksum engines (O22, O26, O27): the folds of XOR-8 commute, and one iteration of
CRC-8 is injective for an odd polynomial, so the difference a changed byte makes is never lost. -/

namespace Sys2Proof.Proofs.Checksum

open Sys2Proof Sys2Proof.Machine Function

/-! ## The engines as operations -/

theorem exec_xor8 (c v : Byte) (s : State) :
    exec (.xor8 c v) s = .next { s with fnResult := xor8 c v } := rfl

theorem exec_crc8 (c v : Byte) (s : State) :
    exec (.crc8 c v) s = .next { s with fnResult := crc8 s.cfg.poly c v } := rfl

/-- Settles O22: both engines answer in the port `fnResult`. -/
theorem engineRowsAnswerInTheirPort : Obligations.EngineRowsAnswerInTheirPort :=
  fun c v s => ⟨exec_xor8 c v s, exec_crc8 c v s⟩

/-! ## The loop of CRC-8 -/

theorem crc8Loop_eq_iterate (poly : Byte) (n : Nat) (t : Byte) :
    crc8Loop poly n t = (crc8Iteration poly)^[n] t := by
  induction n generalizing t with
  | zero => rfl
  | succ n ih => exact ih (crc8Iteration poly t)

theorem crc8_eq_iterate (poly c v : Byte) :
    crc8 poly c v = (crc8Iteration poly)^[8] (c ^^^ v) :=
  crc8Loop_eq_iterate poly 8 (c ^^^ v)

theorem crc8Iteration_zero (poly : Byte) : crc8Iteration poly 0#8 = 0#8 := by
  simp [crc8Iteration_eq]

theorem crc8_self (poly c : Byte) : crc8 poly c c = 0#8 := by
  rw [crc8_eq_iterate, BitVec.xor_self, iterate_fixed (crc8Iteration_zero poly)]

/-- The polynomial 0 leaves the bare shift. -/
theorem crc8Iteration_poly_zero (t : Byte) : crc8Iteration 0#8 t = t <<< 1 := by
  simp [crc8Iteration_eq]

theorem crc8Loop_poly_zero (n : Nat) (t : Byte) : crc8Loop 0#8 n t = t <<< n := by
  induction n generalizing t with
  | zero => exact (BitVec.shiftLeft_zero t).symm
  | succ n ih => rw [crc8Loop, ih, crc8Iteration_poly_zero, ← BitVec.shiftLeft_add, Nat.add_comm]

theorem crc8_poly_zero (c v : Byte) : crc8 0#8 c v = 0#8 := by
  rw [crc8, crc8Loop_poly_zero, BitVec.shiftLeft_eq_zero (Nat.le_refl 8)]

/-! ## The engines as functions -/

theorem xor8_rightCommutative : RightCommutative xor8 :=
  ⟨fun c v w => by simp only [xor8, BitVec.xor_assoc, BitVec.xor_comm v w]⟩

/-- Settles O26: the folds of XOR-8 by its commutation, CRC-8 by its loop as an iterate. -/
theorem checksumEnginesCompute : Obligations.ChecksumEnginesCompute :=
  ⟨fun _ _ => ⟨rfl, BitVec.xor_zero, BitVec.xor_self, BitVec.zero_xor⟩,
    fun c _ _ perm => have := xor8_rightCommutative; perm.foldl_eq c,
    fun poly c v => ⟨crc8_eq_iterate poly c v, crc8_self poly c⟩⟩

/-! ## No changed byte is lost -/

/-- For an odd polynomial the lowest bit after an iteration is the top bit before it (R104). -/
theorem crc8Iteration_getLsbD_zero {poly : Byte} (odd : poly.getLsbD 0 = true) (t : Byte) :
    (crc8Iteration poly t).getLsbD 0 = t.getLsbD 7 := by
  rw [crc8Iteration_eq]
  cases top : t.getLsbD 7 <;> simp [odd]

/-- Every other bit is the bit below it, changed by the polynomial where the top bit was set. -/
theorem crc8Iteration_getLsbD_succ (poly t : Byte) {i : Nat} (inside : i < 7) :
    (crc8Iteration poly t).getLsbD (i + 1) =
      (t.getLsbD i ^^ (t.getLsbD 7 && poly.getLsbD (i + 1))) := by
  have inByte : i + 1 < 8 := Nat.succ_lt_succ inside
  rw [crc8Iteration_eq]
  cases top : t.getLsbD 7 <;> simp [inByte, Nat.lt_of_succ_lt inByte]

/-- R104: with bit 0 of the polynomial set, no iteration identifies two values. -/
theorem crc8Iteration_injective {poly : Byte} (odd : poly.getLsbD 0 = true) :
    Injective (crc8Iteration poly) := by
  intro t u same
  have top : t.getLsbD 7 = u.getLsbD 7 := by
    rw [← crc8Iteration_getLsbD_zero odd, same, crc8Iteration_getLsbD_zero odd]
  refine BitVec.eq_of_getLsbD_eq fun i inside => ?_
  rcases Nat.lt_succ_iff_lt_or_eq.mp inside with below | rfl
  · have bit := congrArg (·.getLsbD (i + 1)) same
    simpa only [crc8Iteration_getLsbD_succ _ _ below, top, Bool.xor_left_inj] using bit
  · exact top

theorem xor8_injective_acc (v : Byte) : Injective (xor8 · v) :=
  fun _ _ => (BitVec.xor_left_inj v).mp

theorem xor8_injective_byte (c : Byte) : Injective (xor8 c) :=
  fun _ _ => (BitVec.xor_right_inj c).mp

section
variable {poly : Byte} (odd : poly.getLsbD 0 = true)
include odd

theorem crc8Loop_injective (n : Nat) : Injective (crc8Loop poly n) := by
  have loop_eq : crc8Loop poly n = (crc8Iteration poly)^[n] := funext (crc8Loop_eq_iterate poly n)
  exact loop_eq ▸ (crc8Iteration_injective odd).iterate n

theorem crc8_injective_acc (v : Byte) : Injective (crc8 poly · v) :=
  (crc8Loop_injective odd 8).comp (xor8_injective_acc v)

theorem crc8_injective_byte (c : Byte) : Injective (crc8 poly c) :=
  (crc8Loop_injective odd 8).comp (xor8_injective_byte c)

end

theorem foldl_injective {f : Byte → Byte → Byte} (keepsAcc : ∀ v, Injective (f · v))
    (bytes : List Byte) : Injective (bytes.foldl f) := by
  induction bytes with
  | nil => exact injective_id
  | cons v bytes ih => exact ih.comp (keepsAcc v)

/-- A fold whose step loses neither the accumulator nor the byte shows any one changed byte. -/
theorem foldl_ne_of_ne {f : Byte → Byte → Byte} (keepsAcc : ∀ v, Injective (f · v))
    (keepsByte : ∀ c, Injective (f c)) {x y : Byte} (changed : x ≠ y) (c : Byte)
    (front back : List Byte) :
    (front ++ x :: back).foldl f c ≠ (front ++ y :: back).foldl f c := by
  simp only [List.foldl_append, List.foldl_cons]
  exact (foldl_injective keepsAcc back).ne ((keepsByte _).ne changed)

/-- Settles O27: no engine loses the accumulator or the byte (CRC-8 for an odd polynomial), and the
polynomial 0 shifts all eight bits out. -/
theorem oneChangedByteChangesTheChecksum : Obligations.OneChangedByteChangesTheChecksum :=
  ⟨fun c _ _ front back changed =>
      foldl_ne_of_ne xor8_injective_acc xor8_injective_byte changed c front back,
    fun _ c _ _ front back odd changed =>
      foldl_ne_of_ne (crc8_injective_acc odd) (crc8_injective_byte odd) changed c front back,
    crc8_poly_zero⟩

end Sys2Proof.Proofs.Checksum
end

section
/-! PROOFS. The pre-step, the states `IDLE` and `START`, and the illegal selectors (O1 to O5): the whole
effect of each operation, and the rows of `IDLE` and `START` under every configuration. -/

namespace Sys2Proof.Proofs.Common

open Sys2Proof Sys2Proof.Machine Sys2Proof.Proofs.StepParts Sys2Proof.Proofs.OperationMap

/-! ## The row that is chosen, under every configuration -/

/-- The state under the same configuration without a flags-bearing transport type. -/
def withoutFlagsVariant (s : State) : State := { s with cfg := { s.cfg with ttFlagsVariant := none } }

/-- Only the rows of `HEADER_M` ask for the flags-bearing transport type (R80, R81). -/
theorem chosenRow_withoutFlagsVariant {s : State} (elsewhere : ¬ cursorAt s .v1 .headerM) :
    chosenRow (withoutFlagsVariant s) = chosenRow s := by
  simp only [chosenRow, withoutFlagsVariant]
  split
  case h_3 decoder_eq state_eq => exact absurd ⟨decoder_eq, state_eq⟩ elsewhere
  all_goals rfl

theorem rowCondition_withoutFlagsVariant {s : State} {i : Instr}
    (elsewhere : ¬ cursorAt s .v1 .headerM) (h : rowCondition i s) :
    rowCondition i (withoutFlagsVariant s) := by
  cases i with
  | hmFlagsvar | hmKnown | hmInvalid => exact absurd h.1 elsewhere
  | _ => exact h

/-- Outside `HEADER_M` the operation whose row's condition holds is chosen, whether or not the
configuration is consistent: without a flags-bearing transport type it is (R9). -/
theorem chooses_of_rowCondition_elsewhere {s : State} {i : Instr}
    (elsewhere : ¬ cursorAt s .v1 .headerM) (h : rowCondition i s) : chooses s i := by
  have chosen : chooses (withoutFlagsVariant s) i :=
    chooses_of_rowCondition rfl (rowCondition_withoutFlagsVariant elsewhere h)
  rw [chooses_iff, chosenRow_withoutFlagsVariant elsewhere] at chosen
  exact chooses_iff.mpr chosen

/-- A cursor without a decoder is not at `HEADER_M`. -/
theorem not_cursorAt_headerM_of_none {s : State} {p : ParserState} (h : cursorAt s .none p) :
    ¬ cursorAt s .v1 .headerM := by
  rintro ⟨decoder_eq, -⟩
  cases h.1.symm.trans decoder_eq

/-! ## The whole effect of each operation -/

/-- `TIMEOUT` resets the frame exactly when the gap exceeds the window (R123). -/
theorem exec_timeout (s : State) :
    exec .timeout s = .next (if idleExceeded s then frameReset s else s) := by
  simp only [exec, execTimeout, signal_idleTimeout]
  split <;> rfl

/-- Settles O1: the idle comparison is exact. -/
theorem preStepCalibratesOrTimesOut : Obligations.PreStepCalibratesOrTimesOut := by
  intro s
  refine ⟨rfl, ?_⟩
  simp only [exec_timeout, idleExceeded_iff]
  rfl

/-- Settles O2: the checksums are set to the 0 that the reset has given them. -/
theorem idleStartBeginsAFrame : Obligations.IdleStartBeginsAFrame := fun _ => rfl

/-- Settles O3: the rows of `IDLE` and `START` are chosen exactly on their conditions. -/
theorem skipAndVersionSelection : Obligations.SkipAndVersionSelection := by
  intro s
  refine ⟨⟨rowCondition_of_chooses, fun cond => ?_⟩, ⟨rowCondition_of_chooses, fun cond => ?_⟩,
    ⟨rowCondition_of_chooses, fun cond => ?_⟩, rfl, rfl, rfl⟩
  all_goals
    exact chooses_of_rowCondition_elsewhere (not_cursorAt_headerM_of_none cond.1) cond

/-- Settles O4: a bad version is answered by silence, a bad transport type by its label. -/
theorem unrecognisedVersionAndV2Type : Obligations.UnrecognisedVersionAndV2Type :=
  fun _ => ⟨rfl, rfl⟩

/-- Settles O5: `ILLEGAL` reads nothing of its selector. -/
theorem illegalSelectorResetsTheFrame : Obligations.IllegalSelectorResetsTheFrame :=
  fun _ _ _ => rfl

end Sys2Proof.Proofs.Common
end

section
/-! PROOFS. The step on a byte, run forwards (O36, O51): from the prepared state it performs the chosen
operation and closes, and after too long a gap the prepared state is in `IDLE`. -/

namespace Sys2Proof.Proofs.ByteStep

open Sys2Proof Sys2Proof.Machine Sys2Proof.Proofs.StepParts Sys2Proof.Proofs.Labels
open Sys2Proof.Proofs.Common

/-! ## The operation of the step (R120) -/

/-- A step on a byte is what is done from the prepared state on. -/
theorem step_eq_of_byte {s : State} {b : TimestampedByte} {rest : List HostInput}
    (delivered : s.input = .byte b :: rest) :
    step s =
      andThen (legalise (prepared b rest s)) fun u =>
        andThen (runOperation u) fun v => .next (closeStep v) := by
  rw [step_of_byte delivered, byteStep, exec_preOperation_latch, andThen_next]

section

variable {s t : State} {b : TimestampedByte} {rest : List HostInput} {i : Instr}

/-- In a legal cursor the step performs the operation chosen there. -/
theorem step_of_legal (delivered : s.input = .byte b :: rest)
    (legal : legalPair (prepared b rest s).frame.decoder (prepared b rest s).frame.state = true)
    (chosen : chooses (prepared b rest s) i) (ran : exec i (prepared b rest s) = .next t) :
    step s = .next (closeStep t) := by
  rw [step_eq_of_byte delivered, legalise_eq, if_pos legal, andThen_next,
    runOperation_of_decode chosen, ran, andThen_next]

/-- In an illegal cursor the step performs the operation chosen after the frame reset. -/
theorem step_of_illegal (delivered : s.input = .byte b :: rest)
    (illegal : legalPair (prepared b rest s).frame.decoder (prepared b rest s).frame.state = false)
    (chosen : chooses (frameReset (prepared b rest s)) i)
    (ran : exec i (frameReset (prepared b rest s)) = .next t) : step s = .next (closeStep t) := by
  rw [step_eq_of_byte delivered, legalise_eq, illegal, if_neg Bool.false_ne_true, andThen_next,
    runOperation_of_decode chosen, ran, andThen_next]

end

/-- At an illegal cursor the operation chosen is `ILLEGAL` for that cursor (R131). -/
theorem chooses_illegal {s : State}
    (illegal : legalPair s.frame.decoder s.frame.state = false) :
    chooses s (.illegal s.frame.decoder s.frame.state) := by
  rw [chooses_iff, stepGroup_of_illegal illegal, chosenRow_of_illegal illegal]
  rfl

/-- Settles O36: the step runs the decoded operation, from the reset frame if the cursor is illegal. -/
theorem stepRunsTheDecodedOperation : Obligations.StepRunsTheDecodedOperation := by
  intro s t b rest i delivered
  exact ⟨step_of_legal delivered,
    fun illegal => ⟨chooses_illegal illegal, step_of_illegal delivered illegal⟩⟩

/-! ## A gap above the window (R123, R226) -/

/-- The byte is taken and the frame is dropped; the timing registers stay (R124). -/
theorem prepared_of_outsideWindow {s : State} {b : TimestampedByte} (rest : List HostInput)
    (outside : withinWindow s b = false) :
    prepared b rest s = frameReset (latch b rest s) := by
  simp only [withinWindow, Bool.or_eq_false_iff, Bool.not_eq_false', decide_eq_false_iff_not,
    Nat.not_le] at outside
  obtain ⟨calibrated, gap⟩ := outside
  simp only [prepared, if_pos calibrated, if_pos gap]
  rfl

/-- After too long a gap the step performs the row of `IDLE` whose condition the byte meets. -/
theorem step_of_outsideWindow {s t : State} {b : TimestampedByte} {rest : List HostInput}
    {i : Instr} (delivered : s.input = .byte b :: rest) (outside : withinWindow s b = false)
    (cond : rowCondition i (frameReset (latch b rest s)))
    (ran : exec i (frameReset (latch b rest s)) = .next t) : step s = .next (closeStep t) := by
  have idle : cursorAt (frameReset (latch b rest s)) .none .idle := ⟨rfl, rfl⟩
  rw [← prepared_of_outsideWindow rest outside] at cond ran idle
  refine step_of_legal delivered (by rw [idle.1, idle.2]; rfl) ?_ ran
  exact chooses_of_rowCondition_elsewhere (not_cursorAt_headerM_of_none idle) cond

/-- Settles O51: the marker starts a frame from the reset one, any other byte is skipped. -/
theorem silenceAbandonsTheFrame : Obligations.SilenceAbandonsTheFrame := by
  intro s b rest delivered outside
  by_cases marker : b.value = s.cfg.startMarker
  · have started :=
      step_of_outsideWindow (i := .idleStart) delivered outside ⟨⟨rfl, rfl⟩, marker⟩ rfl
    exact ⟨_, _, started, fun _ => ⟨rfl, rfl⟩, fun other => absurd marker other⟩
  · have skipped :=
      step_of_outsideWindow (i := .idleSkip) delivered outside ⟨⟨rfl, rfl⟩, marker⟩ rfl
    exact ⟨_, _, skipped, fun isMarker => absurd isMarker marker, fun _ => ⟨rfl, rfl⟩⟩

end Sys2Proof.Proofs.ByteStep
end

section
/-! PROOFS. Placing an operation (O58): the byte that `placeOp` delivers comes without a gap, so the
pre-step keeps the frame, and the registers and tables it sets meet the condition of the operation's
row. -/

namespace Sys2Proof.Proofs.Placing

open Sys2Proof Sys2Proof.Machine Sys2Proof.Proofs.StepParts Sys2Proof.Proofs.Labels
open Sys2Proof.Proofs.Common

/-! ## The delivered byte -/

/-- The byte that `deliver` puts in front of the input: it starts and ends where the last one ended. -/
def gaplessByte (v : Byte) (s : State) : TimestampedByte :=
  { value := v, startTime := s.timing.lastByteTime, endTime := s.timing.lastByteTime }

theorem deliver_input (v : Byte) (s : State) :
    (deliver v s).input = .byte (gaplessByte v s) :: s.input := rfl

theorem withinWindow_gaplessByte (v : Byte) (s : State) :
    withinWindow (deliver v s) (gaplessByte v s) = true := by
  simp [withinWindow, deliver, gaplessByte]

/-- The state with another current byte. -/
def withCur (b : TimestampedByte) (s : State) : State := { s with cur := b }

@[simp] theorem gaplessByte_value (v : Byte) (s : State) : (gaplessByte v s).value = v := rfl
@[simp] theorem withCur_frame (b : TimestampedByte) (s : State) : (withCur b s).frame = s.frame := rfl
@[simp] theorem withCur_cfg (b : TimestampedByte) (s : State) : (withCur b s).cfg = s.cfg := rfl
@[simp] theorem withCur_cur (b : TimestampedByte) (s : State) : (withCur b s).cur = b := rfl

@[simp] theorem setCursor_frame (d : DecoderTag) (p : ParserState) (s : State) :
    (setCursor d p s).frame = { s.frame with decoder := d, state := p } := rfl
@[simp] theorem setCursor_cfg (d : DecoderTag) (p : ParserState) (s : State) :
    (setCursor d p s).cfg = s.cfg := rfl

theorem prepared_cfg (b : TimestampedByte) (rest : List HostInput) (s : State) :
    (prepared b rest s).cfg = s.cfg := by
  unfold prepared; split <;> rfl

theorem prepared_cur (b : TimestampedByte) (rest : List HostInput) (s : State) :
    (prepared b rest s).cur = b := by
  unfold prepared; split <;> rfl

/-- Within the window the pre-step keeps the frame state. -/
theorem prepared_frame_of_withinWindow {s : State} {b : TimestampedByte} (rest : List HostInput)
    (within : withinWindow s b = true) : (prepared b rest s).frame = s.frame :=
  Marker.preOperation_frame_of_withinWindow within (exec_preOperation_latch b rest s)

/-- The condition logic reads the frame state, the configuration and the current byte only. -/
theorem chooses_congr {s t : State} {i : Instr} (frame_eq : s.frame = t.frame)
    (cfg_eq : s.cfg = t.cfg) (cur_eq : s.cur = t.cur) : chooses s i ↔ chooses t i := by
  cases s
  cases t
  cases frame_eq
  cases cfg_eq
  cases cur_eq
  exact Iff.rfl

theorem chooses_prepared_deliver {v : Byte} {s : State} {i : Instr} (rest : List HostInput)
    (chosen : chooses (withCur (gaplessByte v s) s) i) :
    chooses (prepared (gaplessByte v s) rest (deliver v s)) i :=
  (chooses_congr (t := withCur (gaplessByte v s) s)
    (prepared_frame_of_withinWindow rest (withinWindow_gaplessByte v s))
    (prepared_cfg _ _ _) (prepared_cur _ _ _)).mpr chosen

/-! ## What it is to be placed -/

/-- The state `p` has one byte more to take than `s`, and its next step runs the operation if a selector
or the pre-step can choose it. -/
def Placed (i : Instr) (s p : State) : Prop :=
  ∃ b,
    p.input = .byte b :: s.input ∧
      (rowNext i s ≠ none → chooses (prepared b s.input p) i) ∧
      (i = .calibrate ∨ i = .timeout → preOperation (latch b s.input p) = i)

section

variable {s u : State} {v : Byte} {i : Instr}

theorem placed_of_chooses (input_eq : u.input = s.input)
    (chosen : chooses (withCur (gaplessByte v u) u) i) : Placed i s (deliver v u) := by
  refine ⟨gaplessByte v u, by rw [deliver_input, input_eq], fun _ => ?_, ?_⟩
  · exact chooses_prepared_deliver s.input chosen
  · rintro (rfl | rfl) <;> exact (rowCondition_of_chooses chosen).elim

/-- Away from `HEADER_M` it is enough that the row's condition holds at the delivered byte. -/
theorem placed_of_rowCondition {d : DecoderTag} {p : ParserState} (input_eq : u.input = s.input)
    (elsewhere : ¬ (d = .v1 ∧ p = .headerM))
    (cond : rowCondition i (withCur (gaplessByte v u) (setCursor d p u))) :
    Placed i s (deliver v (setCursor d p u)) :=
  placed_of_chooses (u := setCursor d p u) input_eq
    (chooses_of_rowCondition_elsewhere elsewhere cond)

/-- A row without a selector, outside the pre-step: only its byte is claimed. -/
theorem placed_of_no_row (input_eq : u.input = s.input) (noRow : rowNext i s = none)
    (notPre : ¬ (i = .calibrate ∨ i = .timeout)) : Placed i s (deliver v u) :=
  ⟨gaplessByte v u, by rw [deliver_input, input_eq], fun row => absurd noRow row,
    fun pre => absurd pre notPre⟩

end

/-! ## The tables that are set -/

theorem lookup_filter_ne {β : Type} (k : Byte) (l : List (Byte × β)) :
    (l.filter fun e => e.1 != k).lookup k = none := by
  rw [List.lookup_eq_none_iff]
  intro e mem
  exact bne_iff_ne.mpr (bne_iff_ne.mp (List.mem_filter.mp mem).2).symm

theorem lookupVersionTag_setTag (t : Option ProtoVersion) (s : State) :
    lookupVersionTag (setTag t s).cfg 0#8 = t := by
  cases t with
  | none => exact lookup_filter_ne _ _
  | some ver => rfl

theorem lookupTransportType_setType (known flags : Bool) (s : State) :
    lookupTransportType (setType known flags s).cfg 0#8 = if known then some "" else none := by
  cases known with
  | false => exact lookup_filter_ne _ _
  | true => rfl

theorem isFlagsVar_setType (known flags : Bool) (s : State) :
    isFlagsVar (setType known flags s).cfg 0#8 = flags := by
  cases flags with
  | true => rfl
  | false =>
    simp only [isFlagsVar, setType]
    split <;> simp_all

/-! ## The rows -/

/-- The byte that is delivered to miss a value. -/
theorem add_one_ne_self (v : Byte) : v + 1#8 ≠ v := by
  bv_omega

/-- A two-byte field is not 0 when its second byte is 1, whatever its first byte was. -/
theorem withLowByte_one_pos (acc : Half) : 0 < (withLowByte acc 1#8).toNat := by
  simp only [withLowByte, BitVec.toNat_or]
  exact Nat.lt_of_lt_of_le (by decide) Nat.right_le_or

/-- At `HEADER_M` the condition logic asks the two tables that `setType` has set. -/
theorem chooses_headerM_setType (known flags : Bool) (s : State) (i : Instr)
    (row : (stepGroup .v1 .headerM)[if flags then 0 else if known then 1 else 2]? = some i) :
    chooses (withCur (gaplessByte 0#8 (setType known flags s))
      (setCursor .v1 .headerM (setType known flags s))) i := by
  rw [chooses_iff, ← row]
  simp only [chosenRow, withCur_frame, withCur_cfg, withCur_cur, setCursor_frame, setCursor_cfg,
    gaplessByte_value, isFlagsVar_setType, lookupTransportType_setType]
  cases flags <;> cases known <;> rfl

/-- Every well-formed operation is placed by `placeOp`. -/
theorem placeOp_placed (i : Instr) (s : State) (wf : i.wf = true) : Placed i s (placeOp i s) := by
  cases i with
  | calibrate | timeout => exact ⟨_, rfl, fun row => absurd rfl row, fun _ => rfl⟩
  | idleStart | v1ChecksumOk | v2ChecksumOk =>
    exact placed_of_rowCondition rfl (by decide) ⟨⟨rfl, rfl⟩, rfl⟩
  | idleSkip | v1ChecksumErr | v2ChecksumErr =>
    exact placed_of_rowCondition rfl (by decide) ⟨⟨rfl, rfl⟩, add_one_ne_self _⟩
  | startV1 | startV2 | startOther =>
    refine placed_of_rowCondition rfl (by decide) ⟨⟨rfl, rfl⟩, ?_⟩
    simp [lookupVersionTag_setTag]
  | hmFlagsvar | hmKnown | hmInvalid =>
    exact placed_of_chooses rfl (chooses_headerM_setType _ _ s _ rfl)
  | hxKnown | hxInvalid =>
    refine placed_of_rowCondition rfl (by decide) ⟨⟨rfl, rfl⟩, ?_⟩
    simp [lookupTransportType_setType]
  | v1FuncPayload =>
    exact placed_of_rowCondition rfl (by decide) ⟨⟨rfl, rfl⟩, Nat.one_pos, add_one_ne_self _⟩
  | v1FuncEncap => exact placed_of_rowCondition rfl (by decide) ⟨⟨rfl, rfl⟩, Nat.one_pos, rfl⟩
  | v1FuncEmpty | v1PayloadLast | v2PayloadLast =>
    exact placed_of_rowCondition rfl (by decide) ⟨⟨rfl, rfl⟩, rfl⟩
  | v1PayloadMore | v2PayloadMore =>
    exact placed_of_rowCondition rfl (by decide) ⟨⟨rfl, rfl⟩, (Nat.succ_ne_self 1).symm⟩
  | v2Size2Empty =>
    refine placed_of_rowCondition rfl (by decide) ⟨⟨rfl, rfl⟩, ?_⟩
    simp [len16, withLowByte]
  | v2Size2Payload =>
    exact placed_of_rowCondition rfl (by decide) ⟨⟨rfl, rfl⟩, withLowByte_one_pos _⟩
  | v1Flags | v1Size | v2Flags | v2Func1 | v2Func2 | v2Size1 | eFlags | eFunc1 | eFunc2 | eSize1
  | eSize2 | ePayload | eChecksum =>
    exact placed_of_rowCondition rfl (by decide) ⟨rfl, rfl⟩
  | illegal d p =>
    have illegal : legalPair d p = false := by simpa [Instr.wf] using wf
    refine placed_of_rowCondition rfl ?_ ⟨⟨rfl, rfl⟩, illegal⟩
    rintro ⟨rfl, rfl⟩
    cases illegal
  | xor8 | crc8 | fdRun | fdOpaque | fdSkip | fdFixedw | fdRest | fdIText | fdIFixed | fdIIndex
  | fdIMap | fdIRaw =>
    exact placed_of_no_row rfl rfl (by simp)

/-- Settles O58: what `placeOp` sets meets the condition of each row, or makes the pre-step's choice. -/
theorem placedOperationRunsNext : Obligations.PlacedOperationRunsNext := placeOp_placed

end Sys2Proof.Proofs.Placing
end

section
/-! PROOFS. The MSP v1 path, from `HEADER_M` to `V1_CHECKSUM` (O6 to O12): the rows of the v1 states
under every configuration, and the whole effect of each operation. -/

namespace Sys2Proof.Proofs.V1

open Sys2Proof Sys2Proof.Machine Sys2Proof.Proofs.StepParts Sys2Proof.Proofs.OperationMap
open Sys2Proof.Proofs.Common

section

variable {s : State} {i : Instr}

/-! ## The row that is chosen -/

/-- A row of a v1 state after `HEADER_M` is chosen exactly on its condition, under every
configuration. -/
theorem chooses_iff_rowCondition_of_v1 {p : ParserState} (afterHeader : p ≠ .headerM)
    (atRow : rowCondition i s → cursorAt s .v1 p) : chooses s i ↔ rowCondition i s := by
  refine ⟨rowCondition_of_chooses, fun cond => chooses_of_rowCondition_elsewhere ?_ cond⟩
  rintro ⟨-, atHeader⟩
  exact afterHeader ((atRow cond).2.symm.trans atHeader)

/-- At `HEADER_M` the flags-bearing variant is asked for before the table of names. -/
theorem chooses_iff_of_headerM (atHeader : cursorAt s .v1 .headerM) :
    chooses s i ↔
      (if s.cfg.ttFlagsVariant = some s.cur.value then Instr.hmFlagsvar
        else if lookupTransportType s.cfg s.cur.value ≠ none then .hmKnown else .hmInvalid) = i := by
  obtain ⟨decoder_eq, state_eq⟩ := atHeader
  simp only [chooses_iff, chosenRow, decoder_eq, state_eq, isFlagsVar_iff,
    Option.isSome_iff_ne_none]
  split
  · exact Option.some_inj
  · split <;> exact Option.some_inj

theorem chooses_hmFlagsvar_iff : chooses s .hmFlagsvar ↔ rowCondition .hmFlagsvar s := by
  refine ⟨rowCondition_of_chooses, fun ⟨atHeader, flags⟩ => ?_⟩
  rw [chooses_iff_of_headerM atHeader, if_pos flags]

theorem chooses_hmKnown_iff : chooses s .hmKnown ↔ rowCondition .hmKnown s := by
  refine ⟨rowCondition_of_chooses, fun ⟨atHeader, known, noFlags⟩ => ?_⟩
  rw [chooses_iff_of_headerM atHeader, if_neg noFlags, if_pos known]

/-- Where the count is below the length, the byte that is not the last leaves it below (R41). -/
theorem chooses_v1PayloadMore_iff
    (isOpen : s.frame.v1.receivedCount < s.frame.v1.expectedLen) :
    chooses s .v1PayloadMore ↔
      cursorAt s .v1 .v1Payload ∧ s.frame.v1.receivedCount + 1 < s.frame.v1.expectedLen := by
  have notLast : s.frame.v1.receivedCount + 1 ≠ s.frame.v1.expectedLen ↔
      s.frame.v1.receivedCount + 1 < s.frame.v1.expectedLen := by omega
  rw [← notLast]
  exact chooses_iff_rowCondition_of_v1 (by decide) And.left

/-! ## What the operations share -/

/-- The text for a byte with a name is the registry's (R111). -/
theorem typeName_eq {name : String} (named : lookupTransportType s.cfg s.cur.value = some name) :
    typeName s = name := by
  rw [typeName, named, Option.getD_some]

end

/-- What each `V1.FUNC.*` operation does before it names the next state (R145 to R147). -/
theorem takeV1Func_eq (s : State) :
    takeV1Func s =
      { s with
        frame :=
          { s.frame with
            v1 := { s.frame.v1 with funcId := s.cur.value }
            crc1 := s.frame.crc1 ^^^ s.cur.value }
        out :=
          s.out ++
            [byteLabel s ("Func: " ++ nameForFunction s.cfg .v1 s.cur.value.toNat)] } := rfl

/-- What each `V1.PAYLOAD.*` operation does with its byte (R148, R149). -/
theorem takeV1Payload_eq (s : State) :
    takeV1Payload s =
      { s with
        frame :=
          { s.frame with
            payloadBuffer := s.frame.payloadBuffer ++ [s.cur]
            v1 := { s.frame.v1 with receivedCount := s.frame.v1.receivedCount + 1 }
            crc1 := s.frame.crc1 ^^^ s.cur.value } } := rfl

theorem exec_v1FuncPayload (s : State) :
    exec .v1FuncPayload s = .next (setState .v1Payload (takeV1Func s)) := rfl

theorem exec_v1FuncEmpty (s : State) :
    exec .v1FuncEmpty s = .next (setState .v1Checksum (takeV1Func s)) := rfl

theorem exec_v1FuncEncap (s : State) :
    exec .v1FuncEncap s = .next (setState .v2Flags (takeV1Func s)) := rfl

theorem exec_v1PayloadMore (s : State) : exec .v1PayloadMore s = .next (takeV1Payload s) := rfl

/-- The layout is the pending function's, and the buffer is the one with the byte appended (R149). -/
theorem exec_v1PayloadLast (s : State) :
    exec .v1PayloadLast s =
      .next
        (setState .v1Checksum
          (emitAll
            (decodeFields (fieldLayout s.cfg s.frame.v1.funcId.toNat)
              (s.frame.payloadBuffer ++ [s.cur]))
            (takeV1Payload s))) := rfl

/-! ## The operations -/

/-- Settles O6: the flags-bearing variant is asked for first, and a consistent configuration names it,
which keeps it out of `HM.INVALID`. -/
theorem headerMLabelsTheTransportType : Obligations.HeaderMLabelsTheTransportType := by
  intro s
  exact ⟨chooses_hmFlagsvar_iff, chooses_hmKnown_iff, operationMapChoosesTheRow s .hmInvalid,
    ⟨typeName s, rfl, fun _ => typeName_eq⟩, ⟨typeName s, rfl, fun _ => typeName_eq⟩, rfl⟩

/-- Settles O7: each is its state's one row. -/
theorem v1FlagsAndLength : Obligations.V1FlagsAndLength := by
  intro s
  refine ⟨?_, ?_, rfl, rfl, BitVec.zero_xor⟩
  all_goals exact chooses_iff_rowCondition_of_v1 (by decide) id

/-- Settles O8: the two share all but the next state. -/
theorem v1FunctionByte : Obligations.V1FunctionByte := by
  intro s
  refine ⟨chooses_iff_rowCondition_of_v1 (by decide) And.left,
    chooses_iff_rowCondition_of_v1 (by decide) And.left, ?_, ?_⟩
  · rw [exec_v1FuncPayload, takeV1Func_eq]; rfl
  · rw [exec_v1FuncEncap, takeV1Func_eq]; rfl

/-- Settles O9: the length is tried before the id (D12). -/
theorem v1FunctionByteOfAnEmptyFrame : Obligations.V1FunctionByteOfAnEmptyFrame := by
  intro s
  refine ⟨chooses_iff_rowCondition_of_v1 (by decide) And.left, ?_⟩
  rw [exec_v1FuncEmpty, takeV1Func_eq]
  rfl

/-- Settles O10: below the length (R41), not to be the last is to stay below it. -/
theorem v1PayloadByteInTheMiddle : Obligations.V1PayloadByteInTheMiddle := by
  intro s
  refine ⟨chooses_v1PayloadMore_iff, ?_⟩
  rw [exec_v1PayloadMore, takeV1Payload_eq]

/-- Settles O11: the byte is taken as in the middle before the field decoder runs. -/
theorem v1PayloadByteAtTheEnd : Obligations.V1PayloadByteAtTheEnd := by
  intro s
  refine ⟨chooses_iff_rowCondition_of_v1 (by decide) And.left, ?_⟩
  rw [exec_v1PayloadLast, takeV1Payload_eq]
  rfl

/-- Settles O12: a mismatch differs from a match in its label only. -/
theorem v1ChecksumByte : Obligations.V1ChecksumByte := by
  intro s
  refine ⟨?_, ?_, rfl, rfl⟩
  all_goals exact chooses_iff_rowCondition_of_v1 (by decide) And.left

end Sys2Proof.Proofs.V1
end

section
/-! PROOFS. The MSP v2 path, from `HEADER_X` to `V2_CHECKSUM` (O13 to O17): the rows of the v2 states
under every configuration, and the whole effect of each operation. -/

namespace Sys2Proof.Proofs.V2

open Sys2Proof Sys2Proof.Machine Sys2Proof.Proofs.StepParts Sys2Proof.Proofs.OperationMap
open Sys2Proof.Proofs.Common

/-! ## The row that is chosen -/

/-- A row of a v2 state is chosen exactly on its condition, under every configuration: `HEADER_M` is a
state of the v1 decoder. -/
theorem chooses_iff_rowCondition_of_v2 {s : State} {i : Instr} {p : ParserState}
    (atRow : rowCondition i s → cursorAt s .v2 p) : chooses s i ↔ rowCondition i s := by
  refine ⟨rowCondition_of_chooses, fun cond => chooses_of_rowCondition_elsewhere ?_ cond⟩
  rintro ⟨decoder_eq, -⟩
  cases (atRow cond).1.symm.trans decoder_eq

/-! ## The inner part of each operation

Each is stated without the next state, as the encapsulated path shares it (R180). -/

section

variable (s : State)

/-- The checksum restarts at 0, whatever it held (R162). -/
theorem takeV2Flags_eq :
    takeV2Flags s =
      { s with
        frame := { s.frame with crc2 := crc8 s.cfg.poly 0#8 s.cur.value }
        out := s.out ++ [byteLabel s "Flags"] } := rfl

/-- The first id byte and its start time are kept for the label of the second (R163). -/
theorem takeV2Func1_eq :
    takeV2Func1 s =
      { s with
        frame :=
          { s.frame with
            crc2 := crc8 s.cfg.poly s.frame.crc2 s.cur.value
            v2 :=
              { s.frame.v2 with
                funcAcc := highByte s.cur.value
                funcStart := s.cur.startTime } } } := rfl

/-- The label spans both id bytes and names the completed id (R164). -/
theorem takeV2Func2_eq :
    takeV2Func2 s =
      { s with
        frame :=
          { s.frame with
            crc2 := crc8 s.cfg.poly s.frame.crc2 s.cur.value
            v2 := { s.frame.v2 with funcAcc := withLowByte s.frame.v2.funcAcc s.cur.value } }
        out :=
          s.out ++
            [{ startTime := s.frame.v2.funcStart, endTime := s.cur.endTime, kind := .info
               text :=
                "Func: " ++
                  nameForFunction s.cfg .v2
                    (withLowByte s.frame.v2.funcAcc s.cur.value).toNat }] } := rfl

/-- The first length byte and its start time are kept for the label of the second (R165). -/
theorem takeV2Size1_eq :
    takeV2Size1 s =
      { s with
        frame :=
          { s.frame with
            crc2 := crc8 s.cfg.poly s.frame.crc2 s.cur.value
            v2 :=
              { s.frame.v2 with
                lenAcc := highByte s.cur.value
                lenStart := s.cur.startTime } } } := rfl

/-- What the second length byte does, given the length it sets and the text it prints: the two
`V2.SIZE2.*` operations differ in these only (R166, R167). -/
def completeLength (expected : Nat) (text : String) : State :=
  { s with
    frame :=
      { s.frame with
        payloadBuffer := []
        crc2 := crc8 s.cfg.poly s.frame.crc2 s.cur.value
        v2 := { s.frame.v2 with lenAcc := len16 s, expectedLen := expected, receivedCount := 0 } }
    out :=
      s.out ++
        [{ startTime := s.frame.v2.lenStart, endTime := s.cur.endTime, kind := .info
           text := text }] }

theorem takeV2Size2Payload_eq :
    takeV2Size2Payload s =
      completeLength s (len16 s).toNat ("Length " ++ Nat.repr (len16 s).toNat) := rfl

theorem takeV2Size2Empty_eq : takeV2Size2Empty s = completeLength s 0 "Length 0" := rfl

/-- The index in the label is the count before the byte (R168, R169). -/
theorem takeV2Payload_eq :
    takeV2Payload s =
      { s with
        frame :=
          { s.frame with
            payloadBuffer := s.frame.payloadBuffer ++ [s.cur]
            crc2 := crc8 s.cfg.poly s.frame.crc2 s.cur.value
            v2 := { s.frame.v2 with receivedCount := s.frame.v2.receivedCount + 1 } }
        out :=
          s.out ++ [byteLabel s ("data[" ++ Nat.repr s.frame.v2.receivedCount ++ "]")] } := rfl

theorem takeV2ChecksumOk_eq :
    takeV2ChecksumOk s = { s with out := s.out ++ [byteLabel s "CRC"] } := rfl

/-- A mismatch is answered by its label (R171, R223). -/
theorem takeV2ChecksumErr_eq :
    takeV2ChecksumErr s = { s with out := s.out ++ [byteLabel s "CRC ERROR"] } := rfl

/-! ## The operations as their inner parts and their next states -/

theorem exec_hxKnown :
    exec .hxKnown s = .next (setState .v2Flags (emitCur (typeName s) s)) := rfl

theorem exec_v2Flags : exec .v2Flags s = .next (setState .v2Func1 (takeV2Flags s)) := rfl

theorem exec_v2Func1 : exec .v2Func1 s = .next (setState .v2Func2 (takeV2Func1 s)) := rfl

theorem exec_v2Func2 : exec .v2Func2 s = .next (setState .v2Size1 (takeV2Func2 s)) := rfl

theorem exec_v2Size1 : exec .v2Size1 s = .next (setState .v2Size2 (takeV2Size1 s)) := rfl

theorem exec_v2Size2Payload :
    exec .v2Size2Payload s = .next (setState .v2Payload (takeV2Size2Payload s)) := rfl

theorem exec_v2Size2Empty :
    exec .v2Size2Empty s = .next (setState .v2Checksum (takeV2Size2Empty s)) := rfl

theorem exec_v2PayloadMore : exec .v2PayloadMore s = .next (takeV2Payload s) := rfl

theorem exec_v2PayloadLast :
    exec .v2PayloadLast s = .next (setState .v2Checksum (takeV2Payload s)) := rfl

theorem exec_v2ChecksumOk :
    exec .v2ChecksumOk s = .next (frameReset (takeV2ChecksumOk s)) := rfl

theorem exec_v2ChecksumErr :
    exec .v2ChecksumErr s = .next (frameReset (takeV2ChecksumErr s)) := rfl

end

/-! ## The operations -/

/-- Settles O13: a byte the table knows is labelled with its name in the table. -/
theorem headerXLabelsTheTransportType : Obligations.HeaderXLabelsTheTransportType := by
  intro s
  refine ⟨chooses_iff_rowCondition_of_v2 And.left, typeName s, ?_, fun _ => V1.typeName_eq⟩
  rw [exec_hxKnown]
  rfl

/-- Settles O14: each is its state's one row. -/
theorem v2FlagsAndHighBytes : Obligations.V2FlagsAndHighBytes := by
  intro s
  refine ⟨chooses_iff_rowCondition_of_v2 id, chooses_iff_rowCondition_of_v2 id,
    chooses_iff_rowCondition_of_v2 id, ?_, ?_, ?_⟩
  · rw [exec_v2Flags, takeV2Flags_eq]; rfl
  · rw [exec_v2Func1, takeV2Func1_eq]; rfl
  · rw [exec_v2Size1, takeV2Size1_eq]; rfl

/-- Settles O15: the length that the byte completes chooses between the two, which share all but the
length set, the text and the next state. -/
theorem v2LengthIsCompleted : Obligations.V2LengthIsCompleted := by
  intro s
  refine ⟨chooses_iff_rowCondition_of_v2 And.left, chooses_iff_rowCondition_of_v2 And.left, ?_, ?_⟩
  · rw [exec_v2Size2Payload, takeV2Size2Payload_eq]; rfl
  · rw [exec_v2Size2Empty, takeV2Size2Empty_eq]; rfl

/-- Settles O16: the two payload operations differ in the next state only. -/
theorem v2FunctionNameAndPayloadBytes : Obligations.V2FunctionNameAndPayloadBytes := by
  intro s
  refine ⟨?_, ?_, ?_⟩
  · rw [exec_v2Func2, takeV2Func2_eq]; rfl
  · rw [exec_v2PayloadMore, takeV2Payload_eq]
  · rw [exec_v2PayloadLast, takeV2Payload_eq]; rfl

/-- Settles O17: after either label the frame reset leaves nothing of the frame. -/
theorem v2ChecksumByte : Obligations.V2ChecksumByte := by
  intro s
  refine ⟨chooses_iff_rowCondition_of_v2 And.left, chooses_iff_rowCondition_of_v2 And.left, ?_, ?_⟩
  · rw [exec_v2ChecksumOk, takeV2ChecksumOk_eq]; rfl
  · rw [exec_v2ChecksumErr, takeV2ChecksumErr_eq]; rfl

end Sys2Proof.Proofs.V2
end

section
/-! PROOFS. The encapsulated path, MSP v2 inside MSP v1 (O18 to O21): one equation for the wrapper of
R180, each operation as one inner part between the outer count and the next state, and the whole effect
of each operation. -/

namespace Sys2Proof.Proofs.Encapsulated

open Sys2Proof Sys2Proof.Machine Sys2Proof.Proofs.OperationMap Sys2Proof.Proofs.V2

/-! ## The wrapper (R180) -/

/-- The outer part of an encapsulated operation: the byte is folded and counted (R180). -/
def outerTake (s : State) : State := bumpV1 (foldCrc1 s)

theorem outerTake_eq (s : State) :
    outerTake s =
      { s with
        frame :=
          { s.frame with
            v1 := { s.frame.v1 with receivedCount := s.frame.v1.receivedCount + 1 }
            crc1 := s.frame.crc1 ^^^ s.cur.value } } := rfl

/-- Around an inner part that leaves the `v1` registers alone, the wrapper's next state is decided
before the inner part runs: the outer count with the current byte comes first (D13). -/
theorem encapsulate_eq_outerNext (inner : State → State)
    (v1_kept : ∀ u, (inner u).frame.v1 = u.frame.v1) (n : InnerNext) (s : State) :
    encapsulate inner n s = setState (outerNext s (innerTarget n)) (inner (outerTake s)) := by
  rw [encapsulate_eq, v1_kept]
  cases n <;> rfl

/-! ## The operations as their inner parts and their next states

Where the model chooses between two inner operations, the two differ in the next state or in the label
only. -/

section

variable (s : State)

theorem exec_eFlags :
    exec .eFlags s = .next (setState (outerNext s .v2Func1) (takeV2Flags (outerTake s))) :=
  congrArg _ (encapsulate_eq_outerNext takeV2Flags (fun _ => rfl) (.goto .v2Func1) s)

theorem exec_eFunc1 :
    exec .eFunc1 s = .next (setState (outerNext s .v2Func2) (takeV2Func1 (outerTake s))) :=
  congrArg _ (encapsulate_eq_outerNext takeV2Func1 (fun _ => rfl) (.goto .v2Func2) s)

theorem exec_eFunc2 :
    exec .eFunc2 s = .next (setState (outerNext s .v2Size1) (takeV2Func2 (outerTake s))) :=
  congrArg _ (encapsulate_eq_outerNext takeV2Func2 (fun _ => rfl) (.goto .v2Size1) s)

theorem exec_eSize1 :
    exec .eSize1 s = .next (setState (outerNext s .v2Size2) (takeV2Size1 (outerTake s))) :=
  congrArg _ (encapsulate_eq_outerNext takeV2Size1 (fun _ => rfl) (.goto .v2Size2) s)

/-- On length 0 the text of `V2.SIZE2.EMPTY` is the one that the number printed would give
(R166, R167). -/
theorem takeV2Size2Empty_eq_takeV2Size2Payload {s : State} (empty : len16 s = 0#16) :
    takeV2Size2Empty s = takeV2Size2Payload s := by
  rw [takeV2Size2Empty_eq, takeV2Size2Payload_eq, empty]
  rfl

/-- The length chooses the next state only (R185). -/
theorem exec_eSize2 :
    exec .eSize2 s =
      .next
        (setState (outerNext s (if len16 s = 0#16 then .v2Checksum else .v2Payload))
          (takeV2Size2Payload (outerTake s))) := by
  simp only [exec, execESize2]
  split
  next empty =>
    have innerEmpty : len16 (outerTake s) = 0#16 := empty
    rw [encapsulate_eq_outerNext takeV2Size2Empty (fun _ => rfl),
      takeV2Size2Empty_eq_takeV2Size2Payload innerEmpty]
    rfl
  next => rw [encapsulate_eq_outerNext takeV2Size2Payload (fun _ => rfl)]; rfl

/-- The inner count chooses the next state only (R186). -/
theorem exec_ePayload :
    exec .ePayload s =
      .next
        (setState
          (outerNext s
            (if s.frame.v2.receivedCount + 1 = s.frame.v2.expectedLen then .v2Checksum
            else .v2Payload))
          (takeV2Payload (outerTake s))) := by
  simp only [exec, execEPayload, v2Last_iff]
  split
  all_goals rw [encapsulate_eq_outerNext takeV2Payload (fun _ => rfl)]; rfl

/-- The comparison chooses the label only (R187, D37). -/
theorem exec_eChecksum :
    exec .eChecksum s =
      .next
        (setState (outerNext s .v1Payload)
          (emitCur (if s.cur.value = s.frame.crc2 then "CRC" else "CRC ERROR")
            (outerTake s))) := by
  simp only [exec, execEChecksum]
  split
  · rw [encapsulate_eq_outerNext takeV2ChecksumOk (fun _ => rfl)]; rfl
  · rw [encapsulate_eq_outerNext takeV2ChecksumErr (fun _ => rfl)]; rfl

end

/-! ## The operations -/

/-- Settles O18: each is the inner part after the outer fold and count, which leave the `v2` registers
and the second checksum to it (D11). -/
theorem encapsulatedHeaderBytes : Obligations.EncapsulatedHeaderBytes := by
  intro s
  refine ⟨?_, ?_, ?_, ?_⟩
  · rw [exec_eFlags, takeV2Flags_eq, outerTake_eq]; rfl
  · rw [exec_eFunc1, takeV2Func1_eq, outerTake_eq]; simp only [List.append_nil]; rfl
  · rw [exec_eFunc2, takeV2Func2_eq, outerTake_eq]; rfl
  · rw [exec_eSize1, takeV2Size1_eq, outerTake_eq]; simp only [List.append_nil]; rfl

/-- Settles O19: the inner part writes the `v2` counters, and the outer length is not among them. -/
theorem encapsulatedLength : Obligations.EncapsulatedLength := by
  intro s
  rw [exec_eSize2, takeV2Size2Payload_eq, outerTake_eq]
  rfl

/-- Settles O20: the append is the inner part's, the wrapper adds none (D14). -/
theorem encapsulatedPayloadByte : Obligations.EncapsulatedPayloadByte := by
  intro s
  rw [exec_ePayload, takeV2Payload_eq, outerTake_eq]
  rfl

/-- Settles O21: the inner part is one label, and the frame reset of the v2 operation is no part of
it (R187). -/
theorem encapsulatedChecksumByte : Obligations.EncapsulatedChecksumByte := by
  intro s
  rw [exec_eChecksum, outerTake_eq]
  rfl

end Sys2Proof.Proofs.Encapsulated
end

section
/-! PROOFS. The field decoder (O29, O30, O23, O24, O25, O28, O31, O33, O34): the walk by one induction
over its cases, the label over a chunk by the chunk's ends, the text of each interpretation, and the rows
as writes of the ports. -/

namespace Sys2Proof.Proofs.FieldDecoder

open Sys2Proof Sys2Proof.Machine

/-! ## The number of bytes consumed (R204 to R207) -/

theorem fixedCount_of_pos {w : Int} (positive : 0 < w) (left : Nat) :
    fixedCount w left = min w.toNat left := if_pos positive

/-- The bound holds of the free count as well (log entry 10). -/
theorem fixedCount_le (w : Int) (left : Nat) : fixedCount w left ≤ left := by
  unfold fixedCount
  split
  · exact Nat.min_le_right w.toNat left
  · exact Nat.min_le_right (Config.unstatedCount w) left

theorem fieldCount_of_ne_zero {w : Int} (nonzero : w ≠ 0) (left : Nat) :
    fieldCount w left = if w < 0 then left else min w.toNat left := by
  unfold fieldCount
  split
  · rfl
  · exact fixedCount_of_pos (by omega) left

/-! ## The walk (R200) -/

/-- The entries read at a place, and then those after them, are all the entries from that place on. -/
theorem memRead_append_drop (buf : Memory) (pos n : Nat) :
    memRead buf pos n ++ buf.drop (pos + n) = buf.drop pos := by
  rw [memRead, ← List.drop_drop, List.take_append_drop]

/-- The walk's cases as an induction: the layout or the buffer is exhausted, the descriptor is skipped, or
the walk goes on after the bytes it consumes. -/
theorem walk_induction (buf : Memory) {motive : Layout → Nat → Prop}
    (layoutEnd : ∀ pos, motive [] pos)
    (bufferEnd : ∀ lay pos, buf.length ≤ pos → motive lay pos)
    (skipped : ∀ d lay pos, d.width = 0 → motive lay pos → motive (d :: lay) pos)
    (consumed : ∀ d lay pos, pos < buf.length → d.width ≠ 0 →
      motive lay (pos + fieldCount d.width (buf.length - pos)) → motive (d :: lay) pos)
    (lay : Layout) (pos : Nat) : motive lay pos := by
  induction lay generalizing pos with
  | nil => exact layoutEnd pos
  | cons d lay ih =>
    by_cases exhausted : buf.length ≤ pos
    · exact bufferEnd _ pos exhausted
    · by_cases zero : d.width = 0
      · exact skipped d lay pos zero (ih pos)
      · exact consumed d lay pos (Nat.lt_of_not_le exhausted) zero (ih _)

/-- The bytes consumed from a place on, joined, are the first of those the buffer holds from there. -/
theorem walk_bytes_prefix (buf : Memory) (lay : Layout) (pos : Nat) :
    ((walk buf lay pos).flatMap fun f => f.2) <+: buf.drop pos := by
  induction lay, pos using walk_induction buf with
  | layoutEnd pos => exact List.nil_prefix
  | bufferEnd lay pos exhausted => rw [walk_exhausted buf lay pos exhausted]; exact List.nil_prefix
  | skipped d lay pos zero ih => rwa [walk_skip buf d lay pos zero]
  | consumed d lay pos inside nonzero ih =>
    rw [walk_consume buf d lay pos inside nonzero, List.flatMap_cons,
      ← memRead_append_drop buf pos (fieldCount d.width (buf.length - pos))]
    exact (List.prefix_append_right_inj _).mpr ih

theorem walk_descriptors_sublist (buf : Memory) (lay : Layout) (pos : Nat) :
    ((walk buf lay pos).map fun f => f.1).Sublist lay := by
  induction lay, pos using walk_induction buf with
  | layoutEnd pos => exact List.Sublist.refl []
  | bufferEnd lay pos exhausted => rw [walk_exhausted buf lay pos exhausted]; exact List.nil_sublist lay
  | skipped d lay pos zero ih => rw [walk_skip buf d lay pos zero]; exact ih.cons d
  | consumed d lay pos inside nonzero ih =>
    rw [walk_consume buf d lay pos inside nonzero]
    exact ih.cons_cons d

/-- Where bytes are left, a width that is not 0 consumes at least one. -/
theorem memRead_fieldCount_ne_nil {buf : Memory} {w : Int} {pos : Nat} (inside : pos < buf.length)
    (nonzero : w ≠ 0) : memRead buf pos (fieldCount w (buf.length - pos)) ≠ [] := by
  obtain ⟨some_byte, within_left⟩ := fieldCount_bounds w (buf.length - pos) nonzero (by omega)
  have len := memRead_length buf pos (fieldCount w (buf.length - pos)) (by omega)
  exact List.ne_nil_of_length_pos (len.symm ▸ some_byte)

theorem walk_consumed (buf : Memory) (lay : Layout) (pos : Nat) :
    ∀ f ∈ walk buf lay pos, f.1.width ≠ 0 ∧ f.2 ≠ [] := by
  induction lay, pos using walk_induction buf with
  | layoutEnd pos => exact List.forall_mem_nil _
  | bufferEnd lay pos exhausted =>
    rw [walk_exhausted buf lay pos exhausted]; exact List.forall_mem_nil _
  | skipped d lay pos zero ih => rwa [walk_skip buf d lay pos zero]
  | consumed d lay pos inside nonzero ih =>
    rw [walk_consume buf d lay pos inside nonzero]
    exact List.forall_mem_cons.mpr ⟨⟨nonzero, memRead_fieldCount_ne_nil inside nonzero⟩, ih⟩

/-- What the walk leaves over: nothing of the buffer, or no descriptor of a width that is not 0. -/
theorem walk_exhausts (buf : Memory) (lay : Layout) (pos : Nat) :
    ((walk buf lay pos).flatMap fun f => f.2) = buf.drop pos ∨
      ((walk buf lay pos).map fun f => f.1) = lay.filter fun d => decide (d.width ≠ 0) := by
  induction lay, pos using walk_induction buf with
  | layoutEnd pos => exact .inr rfl
  | bufferEnd lay pos exhausted =>
    left
    rw [walk_exhausted buf lay pos exhausted, List.drop_eq_nil_of_le exhausted, List.flatMap_nil]
  | skipped d lay pos zero ih =>
    rwa [walk_skip buf d lay pos zero, List.filter_cons_of_neg (by simp [zero])]
  | consumed d lay pos inside nonzero ih =>
    rw [walk_consume buf d lay pos inside nonzero, List.filter_cons_of_pos (by simp [nonzero]),
      ← memRead_append_drop buf pos (fieldCount d.width (buf.length - pos))]
    exact ih.imp (fun joined => by rw [List.flatMap_cons, joined])
      (fun same => by rw [List.map_cons, same])

/-- Settles O30: the walk from the start of the buffer. -/
theorem walkReadsEachEntryAtMostOnce : Obligations.WalkReadsEachEntryAtMostOnce := fun lay buf =>
  ⟨walk_bytes_prefix buf lay 0, walk_descriptors_sublist buf lay 0, walk_consumed buf lay 0,
    walk_exhausts buf lay 0⟩

/-- Settles O31: the walk's cases in their order, with the count by the sign of the width. -/
theorem walkConsumesByWidth : Obligations.WalkConsumesByWidth := by
  intro buf d lay pos
  by_cases exhausted : buf.length ≤ pos
  · rw [if_pos exhausted, walk_exhausted buf (d :: lay) pos exhausted]
  · rw [if_neg exhausted]
    by_cases zero : d.width = 0
    · rw [if_pos zero, walk_skip buf d lay pos zero]
    · rw [if_neg zero, walk_consume buf d lay pos (Nat.lt_of_not_le exhausted) zero,
        fieldCount_of_ne_zero zero]
      rfl

/-! ## The label over a chunk (R202, R203) -/

/-- A label reads of its chunk the first entry's start and the last entry's end. -/
theorem spanLabel_of_ends {chunk : List TimestampedByte} {first last : TimestampedByte} (t : String)
    (head : chunk.head? = some first) (final : chunk.getLast? = some last) :
    spanLabel t chunk =
      [{ startTime := first.startTime, endTime := last.endTime, kind := .info, text := t }] := by
  cases chunk with
  | nil => cases head
  | cons e es =>
    obtain rfl : e = first := Option.some.inj head
    rw [List.getLast?_cons, ← List.getLastD_eq_getLast?] at final
    rw [spanLabel_cons, Option.some.inj final]

/-- Settles O28: the ends of the buffer are its first and last entries, one entry being both. -/
theorem opaquePayloadIsOneLabel : Obligations.OpaquePayloadIsOneLabel := by
  intro e last middle
  have final : (e :: middle ++ [last]).getLast? = some last := List.getLast?_concat
  have single : [e].getLast? = some e := List.getLast?_singleton
  exact ⟨spanLabel_of_ends "PAYLOAD" rfl final, spanLabel_of_ends "PAYLOAD" rfl single⟩

/-- A function that answers one element for each of a list's answers them one for one and in order. -/
theorem forall₂_flatMap_of_singleton {α β : Type*} {R : α → β → Prop} {g : α → List β} {l : List α}
    (one : ∀ x ∈ l, ∃ y, g x = [y] ∧ R x y) : List.Forall₂ R l (l.flatMap g) := by
  induction l with
  | nil => exact .nil
  | cons x l ih =>
    obtain ⟨⟨y, answer, related⟩, others⟩ := List.forall_mem_cons.mp one
    rw [List.flatMap_cons, answer]
    exact .cons related (ih others)

/-- Settles O29: no descriptor of the walk consumed nothing, so each has its one label. -/
theorem fieldLabelsSpanTheirBytes : Obligations.FieldLabelsSpanTheirBytes := by
  intro lay buf
  refine forall₂_flatMap_of_singleton fun f consumed => ?_
  obtain ⟨-, nonempty⟩ := walk_consumed buf lay 0 f consumed
  have head := List.head?_eq_some_head nonempty
  have final := List.getLast?_eq_some_getLast nonempty
  exact ⟨_, spanLabel_of_ends _ head final, _, _, head, final, rfl⟩

/-! ## The texts (R208 to R212) -/

section

variable (w : Int) (chunk : List TimestampedByte) (value : Nat)

theorem interpret_text :
    interpret w .text chunk value = if w < 0 then textOf chunk else dec value := rfl

theorem interpret_fixedLabel (t : String) : interpret w (.fixedLabel t) chunk value = t := rfl

theorem interpret_indexLookup (l : List String) :
    interpret w (.indexLookup l) chunk value = indexText l value := rfl

theorem interpret_valueLookup (m : List (Nat × String)) :
    interpret w (.valueLookup m) chunk value = mapText m value := rfl

theorem interpret_rawInteger : interpret w .rawInteger chunk value = dec value := rfl

end

theorem indexText_eq (l : List String) (value : Nat) :
    indexText l value = if h : value < l.length then l[value] else "ERROR" := by
  rw [indexText, enumError_eq]
  split
  next inside => rw [List.getElem?_eq_getElem inside, Option.getD_some]
  next pastEnd => rw [List.getElem?_eq_none (Nat.le_of_not_lt pastEnd), Option.getD_none]

theorem mapText_eq (m : List (Nat × String)) (value : Nat) :
    mapText m value = (m.lookup value).getD "ERROR" := by
  rw [mapText, enumError_eq]

/-- Settles O33: the fixed string reads neither bytes nor value; the map is asked for the value. -/
theorem fixedAndMappedText : Obligations.FixedAndMappedText := by
  intro w chunk value
  refine ⟨interpret_fixedLabel w chunk value, fun m => ⟨fun t entry => ?_, fun missing => ?_⟩⟩
  · rw [interpret_valueLookup, mapText_eq, entry, Option.getD_some]
  · rw [interpret_valueLookup, mapText_eq, missing, Option.getD_none]

/-- Settles O34: only text depends on the width, by its sign. -/
theorem rawTextAndIndexedText : Obligations.RawTextAndIndexedText := fun w chunk value =>
  ⟨interpret_rawInteger w chunk value, interpret_text w chunk value, fun l =>
    (interpret_indexLookup w chunk value l).trans (indexText_eq l value)⟩

/-! ## The rows as operations

Each row writes the ports, or nothing (log entry 6). -/

section

variable (s : State)

theorem exec_fdRun :
    exec .fdRun s =
      .next
        (setField
          { s.field with
            labels :=
              decodeFields (fieldLayout s.cfg s.frame.v1.funcId.toNat) s.frame.payloadBuffer }
          s) := rfl

theorem exec_fdOpaque :
    exec .fdOpaque s =
      .next (setField { s.field with labels := opaqueLabels s.frame.payloadBuffer } s) := rfl

theorem exec_fdSkip : exec .fdSkip s = .next s := rfl

theorem exec_fdFixedw :
    exec .fdFixedw s = .next (consume (fixedCount s.field.desc.width (bytesLeft s)) s) := rfl

theorem exec_fdRest : exec .fdRest s = .next (consume (bytesLeft s) s) := rfl

/-- The state with a text in the port, as every interpretation row leaves it. -/
def writeText (t : String) : State := setField { s.field with text := t } s

theorem exec_fdIText : exec .fdIText s = .next (writeText s (textOf s.field.chunk)) := rfl

theorem exec_fdIRaw : exec .fdIRaw s = .next (writeText s (dec s.field.value)) := rfl

theorem exec_fdIFixed :
    ∃ t, exec .fdIFixed s = .next (writeText s t) ∧
      ∀ x, s.field.desc.interp = .fixedLabel x → t = x :=
  ⟨_, rfl, fun x kind => by rw [kind]⟩

theorem exec_fdIIndex :
    ∃ t, exec .fdIIndex s = .next (writeText s t) ∧
      ∀ l, s.field.desc.interp = .indexLookup l → t = indexText l s.field.value :=
  ⟨_, rfl, fun l kind => by rw [kind]⟩

theorem exec_fdIMap :
    ∃ t, exec .fdIMap s = .next (writeText s t) ∧
      ∀ m, s.field.desc.interp = .valueLookup m → t = mapText m s.field.value :=
  ⟨_, rfl, fun m kind => by rw [kind]⟩

end

/-- Settles O25: the walk looks at no other field of a descriptor of width 0. -/
theorem zeroWidthIsSkipped : Obligations.ZeroWidthIsSkipped :=
  ⟨exec_fdSkip, fun buf interp lay pos => walk_skip buf { width := 0, interp := interp } lay pos rfl⟩

/-- Settles O23: the number `FD.FIXEDW` consumes is within what is left even where it is free. -/
theorem fieldRowsReadTheBuffer : Obligations.FieldRowsReadTheBuffer := fun s =>
  ⟨exec_fdRun s, exec_fdOpaque s, exec_fdRest s, fixedCount s.field.desc.width (bytesLeft s),
    exec_fdFixedw s, fixedCount_le _ _, fun positive => fixedCount_of_pos positive _⟩

/-- Settles O24: a descriptor of the row's own kind decides the text. -/
theorem interpretationRowsWriteTheText : Obligations.InterpretationRowsWriteTheText := by
  intro s
  obtain ⟨fixedText, fixed_exec, fixed_eq⟩ := exec_fdIFixed s
  obtain ⟨listText, index_exec, index_eq⟩ := exec_fdIIndex s
  obtain ⟨valueText, map_exec, map_eq⟩ := exec_fdIMap s
  exact ⟨exec_fdIText s, exec_fdIRaw s, ⟨fixedText, fixed_exec, fixed_eq⟩,
    ⟨listText, index_exec, fun l kind => (index_eq l kind).trans (indexText_eq l _)⟩,
    ⟨valueText, map_exec, fun m kind => (map_eq m kind).trans (mapText_eq m _)⟩⟩

end Sys2Proof.Proofs.FieldDecoder
end

section
/-! PROOFS. Nothing stops (O41): every operation answers a next state, and every selector's group has a
row for every byte, so each part of a step answers one too. -/

namespace Sys2Proof.Proofs.Totality

open Sys2Proof Sys2Proof.Machine Sys2Proof.Proofs.StepParts

/-! ## The operations -/

/-- Only the operations with a choice inside them do not answer by their definition alone. -/
theorem exists_next_exec (i : Instr) (s : State) : ∃ t, exec i s = .next t := by
  cases i with
  | timeout => exact ⟨_, Common.exec_timeout s⟩
  | eSize2 => exact ⟨_, Encapsulated.exec_eSize2 s⟩
  | ePayload => exact ⟨_, Encapsulated.exec_ePayload s⟩
  | eChecksum => exact ⟨_, Encapsulated.exec_eChecksum s⟩
  | _ => exact ⟨_, rfl⟩

/-! ## The choice of the operation (R79 to R81) -/

theorem stepGroup_ne_nil (d : DecoderTag) (p : ParserState) : stepGroup d p ≠ [] := by
  cases d <;> cases p <;> decide

/-- The place the condition logic names is within the selector's group. -/
theorem chosenRow_lt_length (s : State) :
    (chosenRow s).toNat < (stepGroup s.frame.decoder s.frame.state).length := by
  simp only [chosenRow]
  split
  case h_11 => exact List.length_pos_of_ne_nil (stepGroup_ne_nil _ _)
  all_goals
    next decoder_eq state_eq =>
      rw [decoder_eq, state_eq]
      repeat' split
      all_goals decide

theorem exists_chooses (s : State) : ∃ i, chooses s i :=
  ⟨_, chooses_iff.mpr (List.getElem?_eq_getElem (chosenRow_lt_length s))⟩

/-! ## The step (R120) -/

/-- The decoder accepts the operation word of every state, legal cursor or not. -/
theorem exists_next_runOperation (s : State) : ∃ t, runOperation s = .next t := by
  obtain ⟨i, chosen⟩ := exists_chooses s
  rw [runOperation_of_decode chosen]
  exact exists_next_exec i s

theorem exists_next_andThen {r : Result} {f : State → Result} (first : ∃ s, r = .next s)
    (second : ∀ s, ∃ t, f s = .next t) : ∃ t, andThen r f = .next t := by
  obtain ⟨s, rfl⟩ := first
  exact second s

/-- From an illegal cursor the step goes on after the frame reset (D7). -/
theorem exists_next_step (s : State) : ∃ t, step s = .next t := by
  cases delivered : s.input with
  | nil => exact ⟨s, step_of_no_input delivered⟩
  | cons e rest =>
    cases e with
    | reset => exact ⟨_, step_of_reset delivered⟩
    | byte b =>
      rw [ByteStep.step_eq_of_byte delivered]
      exact exists_next_andThen ⟨_, legalise_eq _⟩ fun u =>
        exists_next_andThen (exists_next_runOperation u) fun v => ⟨closeStep v, rfl⟩

/-- Settles O41: the operations one by one, and the step by its parts. -/
theorem nothingEverStops : Obligations.NothingEverStops := ⟨exists_next_exec, exists_next_step⟩

end Sys2Proof.Proofs.Totality
end

section
/-! PROOFS. The responses to error conditions (O57): every condition an operation signals is answered by
the label of R228 or by silence. Most operations answer as `signal` does; the label of the v2 function
spans both id bytes, and the labels of the fields are the field decoder's. -/

namespace Sys2Proof.Proofs.Errors

open Sys2Proof Sys2Proof.Machine Sys2Proof.Proofs.FieldDecoder

/-! ## Which conditions go together (R230) -/

theorem nameConditions_length_le_one (name : String) : (nameConditions name).length ≤ 1 := by
  unfold nameConditions
  split <;> simp

/-- What a condition of the name says: the registry answered the sentinel (R224). -/
theorem of_mem_nameConditions {e : ErrorCond} {name : String} (mem : e ∈ nameConditions name) :
    e = .unknownFunction ∧ name = "UNKNOWN" := by
  unfold nameConditions at mem
  split at mem
  next sentinel => exact ⟨List.mem_singleton.mp mem, sentinel⟩
  next => exact absurd mem List.not_mem_nil

/-- What a condition of the fields says: the walk has a field whose value has no entry (R225). -/
theorem of_mem_fieldConditions {e : ErrorCond} {lay : Option Layout} {buf : Memory}
    (mem : e ∈ fieldConditions lay buf) :
    e = .enumRange ∧
      ∃ l, lay = some l ∧
        ∃ f ∈ walk buf l 0, enumOutOfRange f.1.interp (bigEndian f.2) = true := by
  cases lay with
  | none => exact absurd mem List.not_mem_nil
  | some l =>
    obtain ⟨f, walked, fromField⟩ := List.mem_flatMap.mp mem
    split at fromField
    next outOfRange => exact ⟨List.mem_singleton.mp fromField, l, rfl, f, walked, outOfRange⟩
    next => exact absurd fromField List.not_mem_nil

/-- The conditions of which an operation signals one at most: those of the codes 1 to 4 (R228). -/
def isExclusive (e : ErrorCond) : Bool := decide (errorCode e ≤ 4)

theorem filter_isExclusive_length_le_one {l : List ErrorCond} (short : l.length ≤ 1) :
    (l.filter isExclusive).length ≤ 1 :=
  (List.length_filter_le isExclusive l).trans short

/-- The fields' conditions, however many, are all of code 5. -/
theorem filter_isExclusive_fieldConditions (lay : Option Layout) (buf : Memory) :
    (fieldConditions lay buf).filter isExclusive = [] := by
  rw [List.filter_eq_nil_iff]
  intro e mem
  obtain ⟨rfl, -⟩ := of_mem_fieldConditions mem
  decide

/-- No operation but those over a layout signals more than one condition. -/
theorem conditionsOf_length_le_one {i : Instr} (s : State) (notLast : i ≠ .v1PayloadLast)
    (notRun : i ≠ .fdRun) : (conditionsOf i s).length ≤ 1 := by
  cases i with
  | v1PayloadLast => exact absurd rfl notLast
  | fdRun => exact absurd rfl notRun
  | hmInvalid | hxInvalid | startOther | v1ChecksumErr | v2ChecksumErr => exact Nat.le_refl 1
  | v1FuncPayload | v1FuncEmpty | v1FuncEncap | v2Func2 | eFunc2 =>
    exact nameConditions_length_le_one _
  | eChecksum | timeout => simp only [conditionsOf]; split <;> simp
  | fdIIndex | fdIMap =>
    simp only [conditionsOf]
    split
    · split <;> simp
    · exact Nat.zero_le 1
  | _ => exact Nat.zero_le 1

theorem conditionsOf_isExclusive_length_le_one (i : Instr) (s : State) :
    ((conditionsOf i s).filter isExclusive).length ≤ 1 := by
  by_cases overLayout : i = .v1PayloadLast ∨ i = .fdRun
  · have noneLeft : (conditionsOf i s).filter isExclusive = [] := by
      rcases overLayout with rfl | rfl <;> exact filter_isExclusive_fieldConditions _ _
    rw [noneLeft]
    exact Nat.zero_le 1
  · rw [not_or] at overLayout
    exact filter_isExclusive_length_le_one
      (conditionsOf_length_le_one s overLayout.1 overLayout.2)

/-! ## Answers (R228) -/

/-- From `s` to `t` the condition is answered: by a label with its text, or by no label at all. -/
def Answered (e : ErrorCond) (s t : State) : Prop :=
  match errorLabel e with
  | some text => ∃ labels, t.out = s.out ++ labels ∧ ∃ l ∈ labels, l.text = text
  | none => t.out = s.out

/-- A label with the text of R228 answers, whatever else is emitted with it. -/
theorem answered_of_label {e : ErrorCond} {s t : State} {text : String} {labels : List LabeledField}
    (listed : errorLabel e = some text) (emitted : t.out = s.out ++ labels)
    (label : ∃ l ∈ labels, l.text = text) : Answered e s t := by
  rw [Answered, listed]
  exact ⟨labels, emitted, label⟩

/-- The output of `signal` answers its condition. -/
theorem answered_of_signal {e : ErrorCond} {s t : State} (h : t.out = (signal e s).out) :
    Answered e s t := by
  cases e with
  | badVersion | idleTimeout => exact h
  | badTransport | crcMismatch | unknownFunction | enumRange =>
    exact answered_of_label rfl h ⟨_, List.mem_singleton_self _, rfl⟩

/-- The name `UNKNOWN` in the label of a function answers the unknown function (D10). -/
theorem answered_of_funcLabel {e : ErrorCond} {s t : State} {a z : Nat} {name : String}
    (mem : e ∈ nameConditions name)
    (emitted :
      t.out =
        s.out ++ [{ startTime := a, endTime := z, kind := .info, text := "Func: " ++ name }]) :
    Answered e s t := by
  obtain ⟨rfl, rfl⟩ := of_mem_nameConditions mem
  exact answered_of_label rfl emitted ⟨_, List.mem_singleton_self _, rfl⟩

/-! ## The fields' labels (R225) -/

/-- A value with no entry is interpreted as the sentinel. -/
theorem interpret_of_outOfRange {interp : Interpretation} {value : Nat}
    (outOfRange : enumOutOfRange interp value = true) (w : Int) (chunk : List TimestampedByte) :
    interpret w interp chunk value = "ERROR" := by
  cases interp with
  | indexLookup l =>
    have pastEnd : l.length ≤ value := of_decide_eq_true outOfRange
    rw [interpret_indexLookup, indexText_eq, dif_neg (Nat.not_lt.mpr pastEnd)]
  | valueLookup m =>
    have missing : m.lookup value = none := Option.isNone_iff_eq_none.mp outOfRange
    rw [interpret_valueLookup, mapText_eq, missing, Option.getD_none]
  | rawInteger | fixedLabel | text => cases outOfRange

theorem exists_text_spanLabel {chunk : List TimestampedByte} (t : String) (nonempty : chunk ≠ []) :
    ∃ x ∈ spanLabel t chunk, x.text = t := by
  cases chunk with
  | nil => exact absurd rfl nonempty
  | cons e es => exact ⟨_, List.mem_singleton_self _, rfl⟩

/-- The field decoder answers the fields' conditions: a field that consumed bytes has its label. -/
theorem exists_error_decodeFields {e : ErrorCond} {lay : Option Layout} {buf : Memory}
    (mem : e ∈ fieldConditions lay buf) : ∃ x ∈ decodeFields lay buf, x.text = "ERROR" := by
  obtain ⟨-, l, rfl, f, walked, outOfRange⟩ := of_mem_fieldConditions mem
  obtain ⟨-, nonempty⟩ := walk_consumed buf l 0 f walked
  obtain ⟨x, labelled, text⟩ := exists_text_spanLabel "ERROR" nonempty
  rw [← interpret_of_outOfRange outOfRange f.1.width f.2] at labelled
  exact ⟨x, List.mem_flatMap.mpr ⟨f, walked, labelled⟩, text⟩

/-! ## The operations -/

/-- Every condition is answered by the operation that signals it, but for the lookup rows executed by
themselves (log entry 6). -/
theorem exec_answered {i : Instr} {s t : State} {e : ErrorCond} (h : exec i s = .next t)
    (mem : e ∈ conditionsOf i s) (notRun : i ≠ .fdRun) (notIndex : i ≠ .fdIIndex)
    (notMap : i ≠ .fdIMap) : Answered e s t := by
  cases i with
  | hmInvalid | hxInvalid | startOther | v1ChecksumErr | v2ChecksumErr =>
    cases h
    obtain rfl := List.mem_singleton.mp mem
    exact answered_of_signal rfl
  | timeout =>
    rw [Common.exec_timeout] at h
    simp only [conditionsOf] at mem
    split at mem
    · obtain rfl := List.mem_singleton.mp mem
      cases h
      exact answered_of_signal (by split <;> rfl)
    · exact absurd mem List.not_mem_nil
  | eChecksum =>
    rw [Encapsulated.exec_eChecksum] at h
    simp only [conditionsOf] at mem
    split at mem
    next => exact absurd mem List.not_mem_nil
    next mismatch =>
      obtain rfl := List.mem_singleton.mp mem
      rw [if_neg mismatch] at h
      cases h
      exact answered_of_signal rfl
  | v1FuncPayload | v1FuncEmpty | v1FuncEncap | v2Func2 =>
    cases h
    exact answered_of_funcLabel mem rfl
  | eFunc2 =>
    rw [Encapsulated.exec_eFunc2] at h
    cases h
    exact answered_of_funcLabel mem rfl
  | v1PayloadLast =>
    rw [V1.exec_v1PayloadLast] at h
    cases h
    obtain ⟨rfl, -⟩ := of_mem_fieldConditions mem
    exact answered_of_label rfl rfl (exists_error_decodeFields mem)
  | fdRun => exact absurd rfl notRun
  | fdIIndex => exact absurd rfl notIndex
  | fdIMap => exact absurd rfl notMap
  | _ => exact absurd mem List.not_mem_nil

/-- Settles O57: one condition of the codes 1 to 4 at most, and each is answered. -/
theorem errorConditionsAreAnsweredInline : Obligations.ErrorConditionsAreAnsweredInline :=
  fun i s _ h =>
    ⟨conditionsOf_isExclusive_length_le_one i s, fun _ mem notRun notIndex notMap =>
      exec_answered h mem notRun notIndex notMap⟩

end Sys2Proof.Proofs.Errors
end

section
/-! PROOFS. Frame reset and hardware reset (O53, O37): what the operations on R242's list leave, what the
operations beside it keep, and that no other operation enters `IDLE`. -/

namespace Sys2Proof.Proofs.Resets

open Sys2Proof Sys2Proof.Machine Sys2Proof.Proofs.Registers Sys2Proof.Proofs.Encapsulated

/-! ## A step without a byte (R229, R240) -/

theorem step_of_no_input {s : State} (h : s.input = []) : step s = .next s := by
  simp only [step, cycle, h]

/-- Settles O37: without a byte no operation is run. -/
theorem stepWithoutAByte : Obligations.StepWithoutAByte :=
  ⟨fun _ => step_of_no_input, fun _ _ => step_of_reset⟩

/-! ## The operations that end in a frame reset (R242) -/

/-- The operation performs a frame reset and does nothing to the frame state after it: R242's list, with
`TIMEOUT` where it fires. -/
def EndsInFrameReset (i : Instr) (s : State) : Prop :=
  i = .v1ChecksumOk ∨ i = .v1ChecksumErr ∨ i = .v2ChecksumOk ∨ i = .v2ChecksumErr ∨
    (∃ d p, i = .illegal d p) ∨ (i = .timeout ∧ idleExceeded s = true)

section

variable {i : Instr} {s t : State}

/-- The label of a checksum operation is no part of the Session. -/
theorem exec_of_endsInFrameReset (listed : EndsInFrameReset i s) (h : exec i s = .next t) :
    t.frame = Frame.reset ∧ t.timing = s.timing := by
  rcases listed with rfl | rfl | rfl | rfl | ⟨d, p, rfl⟩ | ⟨rfl, exceeded⟩
  case inr.inr.inr.inr.inr =>
    rw [Common.exec_timeout, if_pos exceeded] at h
    cases h
    exact ⟨rfl, rfl⟩
  all_goals
    cases h
    exact ⟨rfl, rfl⟩

/-! ## The operations that come near a frame reset -/

/-- `IDLE.START` moves the cursor on after its reset (R125, D30). -/
theorem exec_idleStart_session (h : exec .idleStart s = .next t) :
    t.frame = { Frame.reset with state := .start } ∧ t.timing = s.timing := by
  cases h
  exact ⟨rfl, rfl⟩

/-- In the rest state of R42 the frame reset has nothing to change. -/
theorem frameReset_eq_self (h : s.frame = Frame.reset) : frameReset s = s := by
  rw [frameReset, ← h]

theorem exec_timeout_of_not_idleExceeded (within : idleExceeded s = false)
    (h : exec .timeout s = .next t) : t = s := by
  rw [Common.exec_timeout, within] at h
  cases h
  rfl

/-- The state after an encapsulated operation is the outer checksum's or the inner operation's. -/
theorem outerNext_eq (s : State) (n : ParserState) :
    outerNext s n = .v1Checksum ∨ outerNext s n = n :=
  ite_eq_or_eq ..

/-- The end of the inner frame is no frame reset: it leaves what the rest of the outer frame needs, and
the outer count decides where that goes on (R187, D13, D37). -/
theorem exec_eChecksum_frame (h : exec .eChecksum s = .next t) :
    (t.frame.state = .v1Checksum ∨ t.frame.state = .v1Payload) ∧
      t.frame.decoder = s.frame.decoder ∧ t.frame.payloadBuffer = s.frame.payloadBuffer ∧
      t.frame.v1.expectedLen = s.frame.v1.expectedLen ∧ t.frame.v2 = s.frame.v2 := by
  rw [exec_eChecksum] at h
  cases h
  exact ⟨outerNext_eq s .v1Payload, rfl, rfl, rfl, rfl⟩

/-! ## The way into `IDLE` -/

/-- An encapsulated operation stays inside the frame where its inner part does: the outer count only
puts the outer checksum in the place of the inner next state (R180). -/
theorem state_ne_idle_of_outerNext {n : ParserState} {u : State}
    (effect : exec i s = .next (setState (outerNext s n) u)) (inside : n ≠ .idle)
    (h : exec i s = .next t) : t.frame.state ≠ .idle := by
  have next_ne_idle : outerNext s n ≠ .idle := by
    rcases outerNext_eq s n with eq | eq <;> rw [eq]
    · decide
    · exact inside
  rw [effect] at h
  cases h
  exact next_ne_idle

/-- An operation that leaves the state `IDLE` found it so or is on R242's list: the others keep the
state, or name a state inside the frame. -/
theorem idle_or_endsInFrameReset_of_exec (h : exec i s = .next t) (idle : t.frame.state = .idle) :
    s.frame.state = .idle ∨ EndsInFrameReset i s := by
  cases i with
  | v1ChecksumOk | v1ChecksumErr | v2ChecksumOk | v2ChecksumErr | illegal =>
    exact .inr (by simp [EndsInFrameReset])
  | timeout =>
    cases exceeded : idleExceeded s with
    | true => exact .inr (by simp [EndsInFrameReset, exceeded])
    | false => exact .inl (exec_timeout_of_not_idleExceeded exceeded h ▸ idle)
  | calibrate | idleSkip | startOther | v1PayloadMore | v2PayloadMore | xor8 | crc8 | fdRun | fdOpaque
  | fdSkip | fdFixedw | fdRest | fdIText | fdIFixed | fdIIndex | fdIMap | fdIRaw =>
    have kept : t.frame.state = s.frame.state :=
      exec_changesOnly h .state (by simp only [writes]; decide)
    exact .inl (kept.symm.trans idle)
  | idleStart | startV1 | startV2 | hmFlagsvar | hmKnown | hmInvalid | v1Flags | v1Size
  | v1FuncPayload | v1FuncEmpty | v1FuncEncap | v1PayloadLast | hxKnown | hxInvalid | v2Flags | v2Func1
  | v2Func2 | v2Size1 | v2Size2Payload | v2Size2Empty | v2PayloadLast =>
    cases h
    cases idle
  | eFlags => exact absurd idle (state_ne_idle_of_outerNext (exec_eFlags s) (by decide) h)
  | eFunc1 => exact absurd idle (state_ne_idle_of_outerNext (exec_eFunc1 s) (by decide) h)
  | eFunc2 => exact absurd idle (state_ne_idle_of_outerNext (exec_eFunc2 s) (by decide) h)
  | eSize1 => exact absurd idle (state_ne_idle_of_outerNext (exec_eSize1 s) (by decide) h)
  | eSize2 => exact absurd idle (state_ne_idle_of_outerNext (exec_eSize2 s) (by split <;> decide) h)
  | ePayload => exact absurd idle (state_ne_idle_of_outerNext (exec_ePayload s) (by split <;> decide) h)
  | eChecksum => exact absurd idle (state_ne_idle_of_outerNext (exec_eChecksum s) (by decide) h)

end

/-- Settles O53: the listed operations reset the frame, and beside them nothing enters `IDLE`. -/
theorem frameResetHappensOnlyWhereListed : Obligations.FrameResetHappensOnlyWhereListed := by
  intro i s t h
  refine ⟨fun listed => exec_of_endsInFrameReset listed h, ?_,
    fun inv idle => frameReset_eq_self (inv.rest idle), ?_, ?_, idle_or_endsInFrameReset_of_exec h⟩
  · rintro rfl
    exact exec_idleStart_session h
  · rintro rfl within
    exact exec_timeout_of_not_idleExceeded within h
  · rintro rfl
    exact exec_eChecksum_frame h

end Sys2Proof.Proofs.Resets
end
